-- ==== Sys2Proof/Word.lean ====
section
/-! DEFINITION. The words of the block (spec/00_scope.md R7): bytes, and the widths of its registers.
All values are unsigned; bit 0 is the least significant bit. Frame offsets and lengths are natural numbers, as D3 and
R159 say a model should compute them; `State.Fits` (Safety.lean) says that they fit a given `FLEN_BITS`. -/

namespace Sys2Proof

/-- One byte of a frame (R50). -/
abbrev Byte := BitVec 8

/-- A MAC address, first wire byte in bits 47:40 (R26). -/
abbrev Mac := BitVec 48

/-- An IPv4 address, first wire byte in bits 31:24 (R28). -/
abbrev Addr4 := BitVec 32

/-- An IPv6 address, first wire byte in bits 127:120 (R29). -/
abbrev Addr6 := BitVec 128

/-- A time or a difference of times on the host's clock: a floating-point number of seconds (R190, R195), an odd integer
times a power of two, or zero. The spec gives no format, so the significand has any length (log 18). -/
abbrev Seconds := Dyadic

/-- A text form the host renders, character by character (R84 to R87). -/
abbrev Text := List Char

end Sys2Proof
end

