-- ==== Sys2Proof/Config.lean ====
section
/-! DEFINITION. What an implementation or a host fixes (spec/00_scope.md R6) and the values the spec leaves free.
The opaque constants have no body: a theorem about them holds whatever they are. -/

namespace Sys2Proof.Config

/-- The value R6 gives the parameter `FLEN_BITS`, the width in bits of every frame offset and length. Nothing in the
model is fixed to it: what depends on the width takes `FLEN_BITS` as an argument (R6, D3). -/
abbrev flenBits : Nat := 16

/-- `FLEN_MAX` (R6): the largest frame a block of width `FLEN_BITS` accepts, in bytes. -/
def flenMax (flenBits : Nat) : Nat := 2 ^ flenBits - 1

/-- The byte the block finds at a frame offset below `FLEN` at which the host holds no byte (R217: it "reads bytes
that are not frame data"), for each submission anew. A free value (log 5). -/
opaque strayByte : Nat → Nat → Byte

/-- `IPV6_TEXT_FORM` (R86, D18), left OPEN by the spec: how the host writes a 128-bit address. A free value (log 17). -/
opaque ipv6Text : Addr6 → Text

/-- The status message of a successful `start()`; the spec gives no text (U20). A free value (log 18). -/
opaque startedText : Text

/-- The status message of a successful `stop()`; the spec gives no text (U20). A free value (log 18). -/
opaque stoppedText : Text

end Sys2Proof.Config
end

