-- ==== Sys2Proof/Syntax.lean ====
section
/-! DEFINITION. The operations of the block: one constructor per row of spec/opcode_table.json (spec/30_encoding.md
R70), where in a DECODE an operation is selected, and the header formats the operations read. -/

namespace Sys2Proof

/-- The operations. The two OTHER operations carry the selector value that chose them (R78, R79). -/
inductive Instr where
  /-- ETH (R100): the Ethernet header. -/
  | eth
  /-- IPV4 (R111): an IPv4 header. -/
  | ipv4
  /-- IPV6 (R114): an IPv6 fixed header. -/
  | ipv6
  /-- L3OTHER (R116): an ethertype that is neither 0x0800 nor 0x86DD. -/
  | l3other (ethertype : BitVec 16)
  /-- ICMP (R131): an ICMP header. -/
  | icmp
  /-- TCP (R132): the first 14 bytes of a TCP header. -/
  | tcp
  /-- UDP (R135): a UDP header. -/
  | udp
  /-- L4OTHER (R136): a protocol number that is not 1, 6 or 17. -/
  | l4other (protocol : BitVec 8)
  /-- DECODE (R150): the composite, one whole frame. -/
  | decode
  deriving DecidableEq, Repr

/-- Where the selector of an operation is looked for (R70): the composite and layer 2 have none, layer 3 has the
ethertype, layer 4 the protocol number. -/
inductive Slot where
  | composite
  | layer2
  | layer3
  | layer4
  deriving DecidableEq, Repr

/-- Why a row of bytes is no selector of a slot. No selector VALUE is illegal (R80), only a wrong number of bytes. -/
inductive DecodeError where
  /-- DECODE and ETH have no selector, and bytes were given. -/
  | selectorUnexpected
  /-- Fewer bytes than the slot's selector has. -/
  | selectorTooShort
  /-- More bytes than the slot's selector has. -/
  | selectorTooLong
  deriving DecidableEq, Repr

/-! ## Header formats (spec/30_encoding.md R71 to R76)

One structure per format, one field per field the block extracts; what it skips (R59) is no field. -/

/-- Format ETH (R71). -/
structure EthHeader where
  dst : Mac
  src : Mac
  etherType : BitVec 16
  deriving DecidableEq, Repr

/-- Format IP4 (R72): `hlen` is in bytes, four times the low nibble of byte 0 (R28). -/
structure Ip4Header where
  ver : BitVec 4
  hlen : BitVec 6
  ttl : BitVec 8
  proto : BitVec 8
  src : Addr4
  dst : Addr4
  deriving DecidableEq, Repr

/-- Format IP6 (R73). -/
structure Ip6Header where
  ver : BitVec 4
  tc : BitVec 8
  flow : BitVec 20
  plen : BitVec 16
  proto : BitVec 8
  hlim : BitVec 8
  src : Addr6
  dst : Addr6
  deriving DecidableEq, Repr

/-- Format ICMP (R74). -/
structure IcmpHeader where
  type : BitVec 8
  code : BitVec 8
  csum : BitVec 16
  deriving DecidableEq, Repr

/-- Format TCP (R75): `hlen` is in bytes, four times the data offset (R31). -/
structure TcpHeader where
  sport : BitVec 16
  dport : BitVec 16
  seq : BitVec 32
  ack : BitVec 32
  hlen : BitVec 6
  flags : BitVec 6
  deriving DecidableEq, Repr

/-- Format UDP (R76). -/
structure UdpHeader where
  sport : BitVec 16
  dport : BitVec 16
  len : BitVec 16
  csum : BitVec 16
  deriving DecidableEq, Repr

end Sys2Proof
end

