-- ==== Sys2Proof/WellFormed.lean ====
section
/-! DEFINITION. Which terms of `Instr` are operations of the block (spec/30_encoding.md R78, R79): an OTHER operation
never carries a selector that means another operation. -/

namespace Sys2Proof

/-- L3OTHER is selected by any of the 65534 ethertypes other than the two named (R78), L4OTHER by any of the 253
protocol numbers other than the three named (R79). -/
def Instr.wf : Instr → Bool
  | .eth => true
  | .ipv4 => true
  | .ipv6 => true
  | .l3other e => e != 0x0800#16 && e != 0x86DD#16
  | .icmp => true
  | .tcp => true
  | .udp => true
  | .l4other p => p != 1#8 && p != 6#8 && p != 17#8
  | .decode => true

end Sys2Proof
end

