-- ==== Sys2Proof/Decode.lean ====
section
/-! DEFINITION. The dispatch tables (spec/30_encoding.md R78, R79) as a decoder from selector bytes to operations, its
encoder, and the wire forms of the six header formats (R71 to R76). Every multi-byte field is big-endian (R52). -/

namespace Sys2Proof

/-- `ETHERTYPE_IPV4` (R6). -/
def ethertypeIpv4 : BitVec 16 := 0x0800#16

/-- `ETHERTYPE_IPV6` (R6). -/
def ethertypeIpv6 : BitVec 16 := 0x86DD#16

/-- `PROTO_ICMP` (R6). -/
def protoIcmp : BitVec 8 := 1#8

/-- `PROTO_TCP` (R6). -/
def protoTcp : BitVec 8 := 6#8

/-- `PROTO_UDP` (R6). -/
def protoUdp : BitVec 8 := 17#8

/-- Layer-3 dispatch on the ethertype, all 16 bits compared (R78, R110). -/
def decodeEthertype (e : BitVec 16) : Instr :=
  if e = ethertypeIpv4 then .ipv4
  else if e = ethertypeIpv6 then .ipv6
  else .l3other e

/-- Layer-4 dispatch on the protocol number, all 8 bits compared, the same after IPV4 and IPV6 (R79, R130). -/
def decodeProtocol (p : BitVec 8) : Instr :=
  if p = protoIcmp then .icmp
  else if p = protoTcp then .tcp
  else if p = protoUdp then .udp
  else .l4other p

/-- The operation a row of selector bytes, in frame order, selects at a slot (R70): total, a wrong number of bytes is
rejected by name, and no selector value is (R80). -/
def decodeBytes : Slot → List Byte → Except DecodeError Instr
  | .composite, [] => .ok .decode
  | .composite, _ :: _ => .error .selectorUnexpected
  | .layer2, [] => .ok .eth
  | .layer2, _ :: _ => .error .selectorUnexpected
  | .layer3, [] => .error .selectorTooShort
  | .layer3, [_] => .error .selectorTooShort
  | .layer3, [hi, lo] => .ok (decodeEthertype (hi ++ lo))
  | .layer3, _ :: _ :: _ :: _ => .error .selectorTooLong
  | .layer4, [] => .error .selectorTooShort
  | .layer4, [p] => .ok (decodeProtocol p)
  | .layer4, _ :: _ :: _ => .error .selectorTooLong

/-- The `k` bytes of `v`, most significant first (R52). -/
def bytesBE : Nat → Nat → List Byte
  | 0, _ => []
  | k + 1, v => bytesBE k (v / 256) ++ [BitVec.ofNat 8 v]

/-- The slot and the selector bytes, in frame order, that select an operation (R70, R78, R79). -/
def encode : Instr → Slot × List Byte
  | .eth => (.layer2, [])
  | .ipv4 => (.layer3, [0x08#8, 0x00#8])
  | .ipv6 => (.layer3, [0x86#8, 0xDD#8])
  | .l3other e => (.layer3, bytesBE 2 e.toNat)
  | .icmp => (.layer4, [0x01#8])
  | .tcp => (.layer4, [0x06#8])
  | .udp => (.layer4, [0x11#8])
  | .l4other p => (.layer4, [p])
  | .decode => (.composite, [])

/-- How many selector bytes a slot has (R70). -/
def Slot.width : Slot → Nat
  | .composite => 0
  | .layer2 => 0
  | .layer3 => 2
  | .layer4 => 1

/-- The operation whose table bits are `w` (spec/opcode_table.json): 16 bits are an ethertype, 8 bits a protocol
number, and no bits at all are the composite, which the host's submit starts (log 10). -/
def decodeTableWord (nbits w : Nat) : Option Instr :=
  if nbits = 16 then (decodeBytes .layer3 (bytesBE 2 w)).toOption
  else if nbits = 8 then (decodeBytes .layer4 (bytesBE 1 w)).toOption
  else if nbits = 0 then (decodeBytes .composite []).toOption
  else none

/-! ## Field assembly (R77) -/

/-- `zext_6(v) * 4` (R8, R77): a length in 32-bit words as a length in bytes, 0 to 60. -/
def wordsToBytes (v : BitVec 4) : BitVec 6 := v.setWidth 6 * 4#6

/-- The length in 32-bit words a length in bytes is written as: the inverse of `wordsToBytes` on multiples of 4. -/
def bytesToWords (v : BitVec 6) : BitVec 4 := v.extractLsb' 2 4

/-! ## Wire forms of the headers

The bytes a header stands in the frame as. Bits and bytes the block never reads (R59) are arguments. -/

/-- Format ETH (R71): 14 bytes. -/
def EthHeader.bytes (h : EthHeader) : List Byte :=
  bytesBE 6 h.dst.toNat ++ bytesBE 6 h.src.toNat ++ bytesBE 2 h.etherType.toNat

/-- Format IP4 (R72): the 20 fixed bytes; `u1` stands at bytes 1 to 7 and `u10` at bytes 10 to 11, never read. -/
def Ip4Header.bytes (h : Ip4Header) (u1 : BitVec 56) (u10 : BitVec 16) : List Byte :=
  [h.ver ++ bytesToWords h.hlen] ++ bytesBE 7 u1.toNat ++ [h.ttl, h.proto] ++ bytesBE 2 u10.toNat
    ++ bytesBE 4 h.src.toNat ++ bytesBE 4 h.dst.toNat

/-- Format IP6 (R73): 40 bytes, the first four one 32-bit word of version, traffic class and flow label. -/
def Ip6Header.bytes (h : Ip6Header) : List Byte :=
  bytesBE 4 (h.ver ++ h.tc ++ h.flow : BitVec 32).toNat ++ bytesBE 2 h.plen.toNat ++ [h.proto, h.hlim]
    ++ bytesBE 16 h.src.toNat ++ bytesBE 16 h.dst.toNat

/-- Format ICMP (R74): 4 bytes. -/
def IcmpHeader.bytes (h : IcmpHeader) : List Byte :=
  [h.type, h.code] ++ bytesBE 2 h.csum.toNat

/-- Format TCP (R75): the 14 bytes the block reads; `u` stands at bits 11:6 of the last word, never read. -/
def TcpHeader.bytes (h : TcpHeader) (u : BitVec 6) : List Byte :=
  bytesBE 2 h.sport.toNat ++ bytesBE 2 h.dport.toNat ++ bytesBE 4 h.seq.toNat ++ bytesBE 4 h.ack.toNat
    ++ bytesBE 2 (bytesToWords h.hlen ++ u ++ h.flags : BitVec 16).toNat

/-- Format UDP (R76): 8 bytes. -/
def UdpHeader.bytes (h : UdpHeader) : List Byte :=
  bytesBE 2 h.sport.toNat ++ bytesBE 2 h.dport.toNat ++ bytesBE 2 h.len.toNat ++ bytesBE 2 h.csum.toNat

end Sys2Proof
end

