-- ==== Sys2Proof/Machine/State.lean ====
section
/-! DEFINITION. The state of the block (spec/10_state.md R20): the frame buffer and its length, the parse cursor, the
31 result registers, STATUS and busy; the reasons a step can stop; and the state after reset (R40). -/

namespace Sys2Proof.Machine

/-- The frame buffer (R50): the bytes the host holds, by frame offset, offsets strictly rising (`Memory.wf`). An offset
that is not listed is one at which the host holds no byte. -/
abbrev Memory := List Host.Cell

/-- The result registers (R25 to R32). `none` is the spec's own condition "holds no value" (R24, log 2). -/
structure Regs where
  /-- FRAME_LEN (R25). -/
  frameLen : Option Nat
  /-- PAY_OFF (R25). -/
  payOff : Option Nat
  /-- PAY_LEN (R25). -/
  payLen : Option Nat
  /-- ETH_DST (R26). -/
  ethDst : Option Mac
  /-- ETH_SRC (R26). -/
  ethSrc : Option Mac
  /-- ETH_TYPE (R26), the layer-3 selector. -/
  ethType : Option (BitVec 16)
  /-- IP_VER (R27). -/
  ipVer : Option (BitVec 4)
  /-- IP_PROTO (R27), the layer-4 selector. -/
  ipProto : Option (BitVec 8)
  /-- IP4_HLEN (R28). -/
  ip4Hlen : Option (BitVec 6)
  /-- IP4_TTL (R28). -/
  ip4Ttl : Option (BitVec 8)
  /-- IP4_SRC (R28). -/
  ip4Src : Option Addr4
  /-- IP4_DST (R28). -/
  ip4Dst : Option Addr4
  /-- IP6_TC (R29). -/
  ip6Tc : Option (BitVec 8)
  /-- IP6_FLOW (R29). -/
  ip6Flow : Option (BitVec 20)
  /-- IP6_PLEN (R29). -/
  ip6Plen : Option (BitVec 16)
  /-- IP6_HLIM (R29). -/
  ip6Hlim : Option (BitVec 8)
  /-- IP6_SRC (R29). -/
  ip6Src : Option Addr6
  /-- IP6_DST (R29). -/
  ip6Dst : Option Addr6
  /-- ICMP_TYPE (R30). -/
  icmpType : Option (BitVec 8)
  /-- ICMP_CODE (R30). -/
  icmpCode : Option (BitVec 8)
  /-- ICMP_CSUM (R30). -/
  icmpCsum : Option (BitVec 16)
  /-- TCP_SPORT (R31). -/
  tcpSport : Option (BitVec 16)
  /-- TCP_DPORT (R31). -/
  tcpDport : Option (BitVec 16)
  /-- TCP_SEQ (R31). -/
  tcpSeq : Option (BitVec 32)
  /-- TCP_ACK (R31). -/
  tcpAck : Option (BitVec 32)
  /-- TCP_HLEN (R31). -/
  tcpHlen : Option (BitVec 6)
  /-- TCP_FLAGS (R31, R134). -/
  tcpFlags : Option (BitVec 6)
  /-- UDP_SPORT (R32). -/
  udpSport : Option (BitVec 16)
  /-- UDP_DPORT (R32). -/
  udpDport : Option (BitVec 16)
  /-- UDP_LEN (R32). -/
  udpLen : Option (BitVec 16)
  /-- UDP_CSUM (R32). -/
  udpCsum : Option (BitVec 16)
  deriving DecidableEq, Repr

/-- Every result register holding no value (R36, R40). -/
def Regs.empty : Regs where
  frameLen := none
  payOff := none
  payLen := none
  ethDst := none
  ethSrc := none
  ethType := none
  ipVer := none
  ipProto := none
  ip4Hlen := none
  ip4Ttl := none
  ip4Src := none
  ip4Dst := none
  ip6Tc := none
  ip6Flow := none
  ip6Plen := none
  ip6Hlim := none
  ip6Src := none
  ip6Dst := none
  icmpType := none
  icmpCode := none
  icmpCsum := none
  tcpSport := none
  tcpDport := none
  tcpSeq := none
  tcpAck := none
  tcpHlen := none
  tcpFlags := none
  udpSport := none
  udpDport := none
  udpLen := none
  udpCsum := none

/-- The names of the result registers (R25 to R32). -/
inductive Reg where
  | frameLen | payOff | payLen
  | ethDst | ethSrc | ethType
  | ipVer | ipProto
  | ip4Hlen | ip4Ttl | ip4Src | ip4Dst
  | ip6Tc | ip6Flow | ip6Plen | ip6Hlim | ip6Src | ip6Dst
  | icmpType | icmpCode | icmpCsum
  | tcpSport | tcpDport | tcpSeq | tcpAck | tcpHlen | tcpFlags
  | udpSport | udpDport | udpLen | udpCsum
  deriving DecidableEq, Repr

/-- The STATUS register (R33), kept whole; its fields are read and written in Machine/Flags.lean. -/
abbrev Status := BitVec 16

/-- `STATUS.L3_KIND` by name (R34). -/
inductive L3Kind where
  | none | v4 | v6 | other
  deriving DecidableEq, Repr

/-- `STATUS.L4_KIND` by name (R34). -/
inductive L4Kind where
  | none | icmp | tcp | udp | other
  deriving DecidableEq, Repr

/-- `STATUS.TRUNC` by name (R34). -/
inductive Trunc where
  | none | l3 | l4
  deriving DecidableEq, Repr

/-- `STATUS.LABEL` by name (R34). -/
inductive Label where
  | unknown | icmp | tcp | udp | protoNum | ipv4 | ipv6
  deriving DecidableEq, Repr

/-- Where the block is. Not busy is `idle` (R40, R42). The positions inside a DECODE are the model's own (R5 allows
steps or one function, log 4): no agent outside the block can observe them. -/
inductive Phase where
  /-- Not busy. -/
  | idle
  /-- Busy: a frame has been submitted and DECODE comes next, as one atomic step. -/
  | submitted
  /-- Busy, in a DECODE taken layer by layer: ETH comes next. -/
  | layer2
  /-- Busy: the layer-3 operation that ETH_TYPE selects comes next. -/
  | layer3
  /-- Busy: the layer-4 operation that IP_PROTO selects comes next. -/
  | layer4
  /-- Busy: only DECODE's last line, `DONE <- 1`, is left. -/
  | finish
  deriving DecidableEq, Repr

/-- The state of the block (R20). -/
structure State where
  /-- FRAME (R21): the host's, read-only to the block. -/
  frame : Memory
  /-- FLEN (R21): the host's, read-only to the block. -/
  flen : Nat
  /-- The parse cursor (R22). -/
  pc : Nat
  /-- The result registers (R24 to R32). -/
  regs : Regs
  /-- STATUS (R33, R34). -/
  status : Status
  /-- Busy or not (R40, R42), and where in a DECODE. -/
  phase : Phase
  /-- The MODEL's own field (log 5): which submission is held, so that the free value of a byte the host does not hold
  is one of its own for each submission. -/
  epoch : Nat
  deriving DecidableEq, Repr

/-- Why the machine stops with a fault. Neither is an exception of the spec: those are next states (R177). -/
inductive Fault where
  /-- A layer operation read a byte at or above `FLEN` (R50, R53). Never raised from any state; safe. -/
  | readOutsideFrame
  /-- The block dispatched on a selector register that holds no value (R8, R216). Raised by the step only in states no
  run reaches; safe. -/
  | selectorHoldsNoValue
  deriving DecidableEq, Repr

/-- Why the model has no move. -/
inductive Refusal where
  /-- An operation that has no meaning yet, by its mnemonic. No arm of `exec` uses it; safe. -/
  | notModelled (mnemonic : String)
  /-- The host's submit while the block is busy, which has no defined effect (R215, D25, U3); safe. -/
  | submitWhileBusy
  /-- A submit of a length above `FLEN_MAX`, which the interface cannot express (R217, U6); safe. -/
  | frameTooLong
  deriving DecidableEq, Repr

/-- The block right after reset (R40, R210). `frame` and `flen` are the host's and unspecified until it supplies a
frame: DESIGN CHOICE empty and 0 (log 3); `epoch`: DESIGN CHOICE 0 (log 5). -/
def State.reset : State where
  frame := []
  flen := 0
  pc := 0
  regs := Regs.empty
  status := 0x0000#16
  phase := .idle
  epoch := 0

end Sys2Proof.Machine
end

