-- ==== Sys2Proof/Machine/Flags.lean ====
section
/-! DEFINITION. The fields of STATUS (spec/10_state.md R33), their codes (R34), and which registers a STATUS says hold
a value (R35). -/

namespace Sys2Proof.Machine

/-- The `w` bits of STATUS from bit `lo` up. -/
def Status.get (st : Status) (lo w : Nat) : BitVec w := st.extractLsb' lo w

/-- `x[STATUS].F <- v` (R8): the field of `w` bits from bit `lo` up, other bits unchanged. -/
def Status.put (st : Status) (lo : Nat) {w : Nat} (v : BitVec w) : Status :=
  (st &&& ~~~((BitVec.allOnes w).setWidth 16 <<< lo)) ||| (v.setWidth 16 <<< lo)

/-! ## Codes (R34) -/

/-- Codes of `L3_KIND`. -/
def L3Kind.code : L3Kind → BitVec 2
  | .none => 0#2
  | .v4 => 1#2
  | .v6 => 2#2
  | .other => 3#2

/-- Codes of `L4_KIND`; 5 to 7 are never produced. -/
def L4Kind.code : L4Kind → BitVec 3
  | .none => 0#3
  | .icmp => 1#3
  | .tcp => 2#3
  | .udp => 3#3
  | .other => 4#3

/-- Codes of `TRUNC`; 3 is never produced. -/
def Trunc.code : Trunc → BitVec 2
  | .none => 0#2
  | .l3 => 1#2
  | .l4 => 2#2

/-- Codes of `LABEL`; 7 is never produced. -/
def Label.code : Label → BitVec 3
  | .unknown => 0#3
  | .icmp => 1#3
  | .tcp => 2#3
  | .udp => 3#3
  | .protoNum => 4#3
  | .ipv4 => 5#3
  | .ipv6 => 6#3

/-! ## Reading the fields (R33) -/

/-- `DONE`, bit 0. -/
def Status.done (st : Status) : Bool := st.get 0 1 == 1#1

/-- `DROP`, bit 1. -/
def Status.drop (st : Status) : Bool := st.get 1 1 == 1#1

/-- `L3_KIND`, bits 3:2, as its code. -/
def Status.l3Code (st : Status) : BitVec 2 := st.get 2 2

/-- `L4_KIND`, bits 6:4, as its code. -/
def Status.l4Code (st : Status) : BitVec 3 := st.get 4 3

/-- `TRUNC`, bits 8:7, as its code. -/
def Status.truncCode (st : Status) : BitVec 2 := st.get 7 2

/-- `DOFF_OVR`, bit 9. -/
def Status.doffOvr (st : Status) : Bool := st.get 9 1 == 1#1

/-- `LABEL`, bits 12:10, as its code. -/
def Status.labelCode (st : Status) : BitVec 3 := st.get 10 3

/-- `L3_KIND` is the kind `k`. -/
def Status.isL3 (st : Status) (k : L3Kind) : Bool := st.l3Code == k.code

/-- `L4_KIND` is the kind `k`. -/
def Status.isL4 (st : Status) (k : L4Kind) : Bool := st.l4Code == k.code

/-- `TRUNC` is `t`. -/
def Status.isTrunc (st : Status) (t : Trunc) : Bool := st.truncCode == t.code

/-- `LABEL` is `l`. -/
def Status.isLabel (st : Status) (l : Label) : Bool := st.labelCode == l.code

/-! ## Writing the fields -/

/-- `x[STATUS].DONE <- 1`. -/
def Status.setDone (st : Status) : Status := st.put 0 1#1

/-- `x[STATUS].DROP <- 1`. -/
def Status.setDrop (st : Status) : Status := st.put 1 1#1

/-- `x[STATUS].L3_KIND <- k`. -/
def Status.setL3 (st : Status) (k : L3Kind) : Status := st.put 2 k.code

/-- `x[STATUS].L4_KIND <- k`. -/
def Status.setL4 (st : Status) (k : L4Kind) : Status := st.put 4 k.code

/-- `x[STATUS].TRUNC <- t`. -/
def Status.setTrunc (st : Status) (t : Trunc) : Status := st.put 7 t.code

/-- `x[STATUS].DOFF_OVR <- 1`. -/
def Status.setDoffOvr (st : Status) : Status := st.put 9 1#1

/-- `x[STATUS].LABEL <- l`. -/
def Status.setLabel (st : Status) (l : Label) : Status := st.put 10 l.code

/-! ## Which registers hold a value (R35) -/

/-- The condition on STATUS under which R35 lists a register as holding a value. -/
def Status.lists (st : Status) : Reg → Bool
  | .frameLen => st.done
  | .payOff | .payLen | .ethDst | .ethSrc | .ethType => st.done && !st.drop
  | .ipVer | .ipProto => st.done && (st.isL3 .v4 || st.isL3 .v6)
  | .ip4Hlen | .ip4Ttl | .ip4Src | .ip4Dst => st.done && st.isL3 .v4
  | .ip6Tc | .ip6Flow | .ip6Plen | .ip6Hlim | .ip6Src | .ip6Dst => st.done && st.isL3 .v6
  | .icmpType | .icmpCode | .icmpCsum => st.done && st.isL4 .icmp
  | .tcpSport | .tcpDport | .tcpSeq | .tcpAck | .tcpHlen | .tcpFlags => st.done && st.isL4 .tcp
  | .udpSport | .udpDport | .udpLen | .udpCsum => st.done && st.isL4 .udp

end Sys2Proof.Machine
end

