-- ==== Sys2Proof/Machine/Ops.lean ====
section
/-! DEFINITION. The named operations over the frame, the registers and STATUS: MemRead (spec/20_memory.md R51), the
exception entries (spec/60_exceptions.md R177), reset (R210), and the host's submit and reads (spec/10_state.md R42, R35). -/

namespace Sys2Proof.Machine

/-- What a layer operation, a DECODE or a step answers. -/
abbrev Out := Host.Outcome State Fault Refusal

/-! ## The frame -/

/-- Strictly rising addresses, all at least `lo`. -/
def Memory.risingFrom : Nat → Memory → Bool
  | _, [] => true
  | lo, (a, _) :: m => decide (lo ≤ a) && Memory.risingFrom (a + 1) m

/-- The canonical form of a frame buffer: addresses strictly rising. An unlisted address holds no byte, so no entry can
equal what one reads as. -/
def Memory.wf (m : Memory) : Bool := m.risingFrom 0

/-- The byte the host holds at an address, if any. -/
def Memory.find (m : Memory) (a : Nat) : Option Byte :=
  match m with
  | [] => none
  | (x, b) :: rest => if x = a then some b else Memory.find rest a

/-- Consecutive bytes from an address up, as a frame buffer. -/
def Memory.ofBytes : Nat → List Byte → Memory
  | _, [] => []
  | a, b :: bs => (a, b) :: Memory.ofBytes (a + 1) bs

/-- `FRAME[a]` for an `a` below `FLEN` (R50): the host's byte, or a free value where the host holds none (R217, log 5). -/
def State.frameByte (s : State) (a : Nat) : Byte :=
  (s.frame.find a).getD (Config.strayByte s.epoch a)

/-- The unsigned big-endian number the `k` bytes from frame offset `a` up spell (R51, R52). -/
def State.bigEndian (s : State) (a : Nat) : Nat → Nat
  | 0 => 0
  | k + 1 => s.bigEndian a k * 256 + (s.frameByte (a + k)).toNat

/-- `MemRead(a, k)` (R51): defined only when `a + k ≤ FLEN`; no alignment (R54); no side effect (R56). -/
def State.memRead (s : State) (a k : Nat) : Option Nat :=
  if a + k ≤ s.flen then some (s.bigEndian a k) else none

/-- `MemRead` of `w / 8` bytes, as a value of `w` bits (R77): the form every field is read in. -/
def State.field (s : State) (w a : Nat) : Option (BitVec w) :=
  (s.memRead a (w / 8)).map (BitVec.ofNat w)

/-- The value of `w` bits that the `w / 8` frame bytes from offset `a` up spell, whatever `FLEN` is: what `field` gives
where the read is defined. -/
def State.wordAt (s : State) (w a : Nat) : BitVec w := BitVec.ofNat w (s.bigEndian a (w / 8))

/-- `n`, the bytes from the parse cursor to the end of the frame (R8). Where the cursor is past the end, which no run
reaches (R22), there are none (log 11). -/
def State.remaining (s : State) : Nat := s.flen - s.pc

/-! ## Registers, cursor and position -/

/-- `pc <- v`. -/
def State.setPc (s : State) (v : Nat) : State := { s with pc := v }

/-- STATUS as a whole. -/
def State.setStatus (s : State) (st : Status) : State := { s with status := st }

/-- The result registers as a whole. -/
def State.setRegs (s : State) (r : Regs) : State := { s with regs := r }

/-- Where the block goes next (log 4). -/
def State.goto (s : State) (p : Phase) : State := { s with phase := p }

/-- ETH's register writes (R26, R100). -/
def Regs.putEth (r : Regs) (h : EthHeader) : Regs :=
  { r with ethDst := some h.dst, ethSrc := some h.src, ethType := some h.etherType }

/-- IPV4's register writes (R27, R28, R111). -/
def Regs.putIp4 (r : Regs) (h : Ip4Header) : Regs :=
  { r with
    ipVer := some h.ver, ip4Hlen := some h.hlen, ip4Ttl := some h.ttl, ipProto := some h.proto,
    ip4Src := some h.src, ip4Dst := some h.dst }

/-- IPV6's register writes (R27, R29, R114). -/
def Regs.putIp6 (r : Regs) (h : Ip6Header) : Regs :=
  { r with
    ipVer := some h.ver, ip6Tc := some h.tc, ip6Flow := some h.flow, ip6Plen := some h.plen,
    ipProto := some h.proto, ip6Hlim := some h.hlim, ip6Src := some h.src, ip6Dst := some h.dst }

/-- ICMP's register writes (R30, R131). -/
def Regs.putIcmp (r : Regs) (h : IcmpHeader) : Regs :=
  { r with icmpType := some h.type, icmpCode := some h.code, icmpCsum := some h.csum }

/-- TCP's register writes (R31, R132). -/
def Regs.putTcp (r : Regs) (h : TcpHeader) : Regs :=
  { r with
    tcpSport := some h.sport, tcpDport := some h.dport, tcpSeq := some h.seq, tcpAck := some h.ack,
    tcpHlen := some h.hlen, tcpFlags := some h.flags }

/-- UDP's register writes (R32, R135). -/
def Regs.putUdp (r : Regs) (h : UdpHeader) : Regs :=
  { r with
    udpSport := some h.sport, udpDport := some h.dport, udpLen := some h.len, udpCsum := some h.csum }

/-- The payload view (R25, R58). -/
def Regs.putView (r : Regs) (off len : Nat) : Regs :=
  { r with payOff := some off, payLen := some len }

/-- `x[PAY_OFF] <- off; x[PAY_LEN] <- len`. -/
def State.setView (s : State) (off len : Nat) : State := s.setRegs (s.regs.putView off len)

/-- The value of a result register as a number, where it holds one (R24). -/
def Regs.read (r : Regs) : Reg → Option Nat
  | .frameLen => r.frameLen
  | .payOff => r.payOff
  | .payLen => r.payLen
  | .ethDst => r.ethDst.map BitVec.toNat
  | .ethSrc => r.ethSrc.map BitVec.toNat
  | .ethType => r.ethType.map BitVec.toNat
  | .ipVer => r.ipVer.map BitVec.toNat
  | .ipProto => r.ipProto.map BitVec.toNat
  | .ip4Hlen => r.ip4Hlen.map BitVec.toNat
  | .ip4Ttl => r.ip4Ttl.map BitVec.toNat
  | .ip4Src => r.ip4Src.map BitVec.toNat
  | .ip4Dst => r.ip4Dst.map BitVec.toNat
  | .ip6Tc => r.ip6Tc.map BitVec.toNat
  | .ip6Flow => r.ip6Flow.map BitVec.toNat
  | .ip6Plen => r.ip6Plen.map BitVec.toNat
  | .ip6Hlim => r.ip6Hlim.map BitVec.toNat
  | .ip6Src => r.ip6Src.map BitVec.toNat
  | .ip6Dst => r.ip6Dst.map BitVec.toNat
  | .icmpType => r.icmpType.map BitVec.toNat
  | .icmpCode => r.icmpCode.map BitVec.toNat
  | .icmpCsum => r.icmpCsum.map BitVec.toNat
  | .tcpSport => r.tcpSport.map BitVec.toNat
  | .tcpDport => r.tcpDport.map BitVec.toNat
  | .tcpSeq => r.tcpSeq.map BitVec.toNat
  | .tcpAck => r.tcpAck.map BitVec.toNat
  | .tcpHlen => r.tcpHlen.map BitVec.toNat
  | .tcpFlags => r.tcpFlags.map BitVec.toNat
  | .udpSport => r.udpSport.map BitVec.toNat
  | .udpDport => r.udpDport.map BitVec.toNat
  | .udpLen => r.udpLen.map BitVec.toNat
  | .udpCsum => r.udpCsum.map BitVec.toNat

/-- The width of a result register in bits (R25 to R32), in a block of width `FLEN_BITS` (R6). -/
def Reg.width (flenBits : Nat) : Reg → Nat
  | .frameLen | .payOff | .payLen => flenBits
  | .ethDst | .ethSrc => 48
  | .ethType => 16
  | .ipVer => 4
  | .ipProto => 8
  | .ip4Hlen => 6
  | .ip4Ttl => 8
  | .ip4Src | .ip4Dst => 32
  | .ip6Tc => 8
  | .ip6Flow => 20
  | .ip6Plen => 16
  | .ip6Hlim => 8
  | .ip6Src | .ip6Dst => 128
  | .icmpType | .icmpCode => 8
  | .icmpCsum => 16
  | .tcpSport | .tcpDport => 16
  | .tcpSeq | .tcpAck => 32
  | .tcpHlen | .tcpFlags => 6
  | .udpSport | .udpDport | .udpLen | .udpCsum => 16

/-- Every register name, each once. -/
def Reg.all : List Reg :=
  [.frameLen, .payOff, .payLen, .ethDst, .ethSrc, .ethType, .ipVer, .ipProto,
   .ip4Hlen, .ip4Ttl, .ip4Src, .ip4Dst, .ip6Tc, .ip6Flow, .ip6Plen, .ip6Hlim, .ip6Src, .ip6Dst] ++
  [.icmpType, .icmpCode, .icmpCsum, .tcpSport, .tcpDport, .tcpSeq, .tcpAck, .tcpHlen, .tcpFlags,
   .udpSport, .udpDport, .udpLen, .udpCsum]

/-! ## Exceptions (R170, R177)

Nothing is saved and there is no handler: an entry writes the outcome of the DECODE that ends with it, and there is no
return (R178). The block is then not busy. -/

/-- What the three entries share: an exception sets `DONE` and ends the DECODE. -/
def State.endByException (s : State) (st : Status) : State := (s.setStatus st.setDone).goto .idle

/-- `entry FrameTooShortForEthernet()` (R177): the frame is dropped, no payload view. -/
def State.enterFrameTooShort (s : State) : State := s.endByException s.status.setDrop

/-- `entry TruncatedFrame(L3)` (R177): the payload view is the whole Ethernet payload. -/
def State.enterTruncatedL3 (s : State) : State :=
  (s.setView 14 (s.flen - 14)).endByException ((s.status.setTrunc .l3).setLabel .unknown)

/-- `entry TruncatedFrame(L4)` (R177): the label names the IP layer, the payload view starts at the cursor. -/
def State.enterTruncatedL4 (s : State) : State :=
  (s.setView s.pc s.remaining).endByException
    ((s.status.setTrunc .l4).setLabel (if s.status.isL3 .v4 then .ipv4 else .ipv6))

/-! ## Ending and starting a DECODE -/

/-- `x[STATUS].DONE <- 1`, the last line of DECODE (R150); the block stops being busy (R42). -/
def State.finishDecode (s : State) : State := (s.setStatus s.status.setDone).goto .idle

/-- STATUS 0 and every other result register holding no value (R36). -/
def State.clearResult (s : State) : State := (s.setStatus 0x0000#16).setRegs Regs.empty

/-- The lines of DECODE before ETH (R150): the result cleared, `FRAME_LEN <- FLEN`, `pc <- 0`. -/
def State.beginDecode (s : State) : State :=
  ((s.clearResult.setRegs { Regs.empty with frameLen := some s.flen }).setPc 0).goto .layer2

/-! ## The host's side of the interface -/

/-- Busy or not (R40, R42). -/
def State.busy (s : State) : Bool := s.phase != .idle

/-- `submit(FRAME, FLEN)` (R42), in a block of width `FLEN_BITS` (R6). Only when not busy (R215) and only for a length the
interface can express (R217).
`bytes` are the bytes the host holds; those at or above `flen` address nothing (R50, R217). A submit discards the
result of the frame before (R44; log 6). -/
def State.submit (s : State) (flenBits : Nat) (bytes : List Byte) (flen : Nat) : Out :=
  if s.busy then .refused .submitWhileBusy
  else if flen > Config.flenMax flenBits then .refused .frameTooLong
  else .next { s.clearResult with
    frame := Memory.ofBytes 0 (bytes.take flen)
    flen := flen
    phase := .submitted
    epoch := s.epoch + 1 }

/-- The `rst` input (R210, R211), at any time: the state of R40. FRAME and FLEN are the host's and are not changed. -/
def State.assertReset (s : State) : State :=
  { State.reset with frame := s.frame, flen := s.flen, epoch := s.epoch }

/-- What the host reads from a result register: its value once `DONE` is 1, where it holds one (R35, R216). -/
def State.hostRead (s : State) (r : Reg) : Option Nat :=
  if s.status.done then s.regs.read r else none

/-- The frame bytes from an offset up, `k` of them. -/
def State.frameBytes (s : State) : Nat → Nat → List Byte
  | _, 0 => []
  | a, k + 1 => s.frameByte a :: s.frameBytes (a + 1) k

/-- The payload (R58, R88): `FRAME[PAY_OFF]` to `FRAME[PAY_OFF + PAY_LEN - 1]`, where there is a payload view. -/
def State.payload (s : State) : Option (List Byte) :=
  match s.regs.payOff, s.regs.payLen with
  | some off, some len => some (s.frameBytes off len)
  | _, _ => none

end Sys2Proof.Machine
end

