-- ==== Sys2Proof/Machine/Operands.lean ====
section
/-! DEFINITION. The operand forms: how each operation finds its header in the frame (spec/20_memory.md R55,
spec/30_encoding.md R71 to R77). Offsets are relative to the header's first byte. -/

namespace Sys2Proof.Machine

/-! ## Minimum lengths (R6, R160) -/

/-- `ETH_HDR_LEN`: bytes of an Ethernet header. -/
def ethHdrLen : Nat := 14

/-- `IP4_MIN`: bytes IPV4 needs for its fixed fields (D6). -/
def ip4Min : Nat := 20

/-- `IP6_HDR_LEN`: bytes of an IPv6 fixed header. -/
def ip6HdrLen : Nat := 40

/-- `ICMP_MIN`. -/
def icmpMin : Nat := 4

/-- `TCP_MIN`. -/
def tcpMin : Nat := 14

/-- `UDP_MIN`. -/
def udpMin : Nat := 8

/-! ## Reading the headers -/

/-- Format ETH at frame offset `a` (R71): reads (0, 6), (6, 6), (12, 2). -/
def State.readEth (s : State) (a : Nat) : Option EthHeader := do
  let dst ← s.field 48 a
  let src ← s.field 48 (a + 6)
  let etherType ← s.field 16 (a + 12)
  return { dst, src, etherType }

/-- The IPv4 header length in bytes, from the header's first byte (R72, R77): low nibble times 4. -/
def ip4HeaderLength (b0 : BitVec 8) : BitVec 6 := wordsToBytes (b0.extractLsb' 0 4)

/-- Format IP4 at frame offset `a` (R72): reads (0, 1), (8, 1), (9, 1), (12, 4), (16, 4). -/
def State.readIp4 (s : State) (a : Nat) : Option Ip4Header := do
  let b0 ← s.field 8 a
  let ttl ← s.field 8 (a + 8)
  let proto ← s.field 8 (a + 9)
  let src ← s.field 32 (a + 12)
  let dst ← s.field 32 (a + 16)
  return { ver := b0.extractLsb' 4 4, hlen := ip4HeaderLength b0, ttl, proto, src, dst }

/-- Format IP6 at frame offset `a` (R73): reads (0, 4), (4, 2), (6, 1), (7, 1), (8, 16), (24, 16). -/
def State.readIp6 (s : State) (a : Nat) : Option Ip6Header := do
  let w ← s.field 32 a
  let plen ← s.field 16 (a + 4)
  let proto ← s.field 8 (a + 6)
  let hlim ← s.field 8 (a + 7)
  let src ← s.field 128 (a + 8)
  let dst ← s.field 128 (a + 24)
  return { ver := w.extractLsb' 28 4, tc := w.extractLsb' 20 8, flow := w.extractLsb' 0 20, plen, proto, hlim, src, dst }

/-- Format ICMP at frame offset `a` (R74): reads (0, 1), (1, 1), (2, 2). -/
def State.readIcmp (s : State) (a : Nat) : Option IcmpHeader := do
  let type ← s.field 8 a
  let code ← s.field 8 (a + 1)
  let csum ← s.field 16 (a + 2)
  return { type, code, csum }

/-- Format TCP at frame offset `a` (R75): reads (0, 2), (2, 2), (4, 4), (8, 4), (12, 2). -/
def State.readTcp (s : State) (a : Nat) : Option TcpHeader := do
  let sport ← s.field 16 a
  let dport ← s.field 16 (a + 2)
  let seq ← s.field 32 (a + 4)
  let ack ← s.field 32 (a + 8)
  let w ← s.field 16 (a + 12)
  return { sport, dport, seq, ack, hlen := wordsToBytes (w.extractLsb' 12 4), flags := w.extractLsb' 0 6 }

/-- Format UDP at frame offset `a` (R76): reads (0, 2), (2, 2), (4, 2), (6, 2). -/
def State.readUdp (s : State) (a : Nat) : Option UdpHeader := do
  let sport ← s.field 16 a
  let dport ← s.field 16 (a + 2)
  let len ← s.field 16 (a + 4)
  let csum ← s.field 16 (a + 6)
  return { sport, dport, len, csum }

end Sys2Proof.Machine
end

