-- ==== Sys2Proof/Machine/Ethernet.lean ====
section
/-! DEFINITION. Layer 2: ETH (spec/40_ethernet.md R100 to R102). -/

namespace Sys2Proof.Machine

/-- ETH (R100): drop a frame shorter than 14 bytes (R101), else the Ethernet group and the cursor at 14. It is the first
operation of a DECODE and reads from frame offset 0. -/
def execEth (s : State) : Out :=
  if s.flen < ethHdrLen then .next s.enterFrameTooShort
  else match s.readEth 0 with
    | none => .fault .readOutsideFrame
    | some h => .next (((s.setRegs (s.regs.putEth h)).setPc 14).goto .layer3)

end Sys2Proof.Machine
end

