-- ==== Sys2Proof/Machine/Ip.lean ====
section
/-! DEFINITION. Layer 3: IPV4, IPV6, L3OTHER (spec/41_ip.md R110 to R116). -/

namespace Sys2Proof.Machine

/-- IPV4 (R111): the three length checks first (R112), then every write. -/
def execIpv4 (s : State) : Out :=
  if s.remaining < 1 then .next s.enterTruncatedL3
  else match s.field 8 s.pc with
    | none => .fault .readOutsideFrame
    | some b0 =>
      if s.remaining < (ip4HeaderLength b0).toNat then .next s.enterTruncatedL3
      else if s.remaining < ip4Min then .next s.enterTruncatedL3
      else match s.readIp4 s.pc with
        | none => .fault .readOutsideFrame
        | some h =>
          .next ((((s.setRegs (s.regs.putIp4 h)).setStatus (s.status.setL3 .v4)).setPc
            (s.pc + h.hlen.toNat)).goto .layer4)

/-- IPV6 (R114): fewer than 40 bytes is a truncation (R115). -/
def execIpv6 (s : State) : Out :=
  if s.remaining < ip6HdrLen then .next s.enterTruncatedL3
  else match s.readIp6 s.pc with
    | none => .fault .readOutsideFrame
    | some h =>
      .next ((((s.setRegs (s.regs.putIp6 h)).setStatus (s.status.setL3 .v6)).setPc
        (s.pc + ip6HdrLen)).goto .layer4)

/-- L3OTHER (R116): a success whatever the length; the Ethernet payload is the payload view. The ethertype that selected
it is already in ETH_TYPE. -/
def execL3other (_ethertype : BitVec 16) (s : State) : Out :=
  .next (((s.setView s.pc s.remaining).setStatus ((s.status.setL3 .other).setLabel .unknown)).goto .finish)

end Sys2Proof.Machine
end

