-- ==== Sys2Proof/Machine/Transport.lean ====
section
/-! DEFINITION. Layer 4: ICMP, TCP, UDP, L4OTHER (spec/42_transport.md R130 to R136). -/

namespace Sys2Proof.Machine

/-- ICMP (R131). -/
def execIcmp (s : State) : Out :=
  if s.remaining < icmpMin then .next s.enterTruncatedL4
  else match s.readIcmp s.pc with
    | none => .fault .readOutsideFrame
    | some h =>
      .next ((((s.setRegs (s.regs.putIcmp h)).setStatus ((s.status.setL4 .icmp).setLabel .icmp)).setView
        (s.pc + icmpMin) (s.remaining - icmpMin)).goto .finish)

/-- The payload view and STATUS after a TCP header (R133): an offset beyond the bytes available gives the empty view at
the end of the frame, and `DOFF_OVR`. -/
def State.tcpView (s : State) (off : Nat) : State :=
  if off > s.remaining then (s.setStatus s.status.setDoffOvr).setView s.flen 0
  else s.setView (s.pc + off) (s.remaining - off)

/-- TCP (R132). -/
def execTcp (s : State) : Out :=
  if s.remaining < tcpMin then .next s.enterTruncatedL4
  else match s.readTcp s.pc with
    | none => .fault .readOutsideFrame
    | some h =>
      .next ((((s.setRegs (s.regs.putTcp h)).setStatus ((s.status.setL4 .tcp).setLabel .tcp)).tcpView
        h.hlen.toNat).goto .finish)

/-- UDP (R135). -/
def execUdp (s : State) : Out :=
  if s.remaining < udpMin then .next s.enterTruncatedL4
  else match s.readUdp s.pc with
    | none => .fault .readOutsideFrame
    | some h =>
      .next ((((s.setRegs (s.regs.putUdp h)).setStatus ((s.status.setL4 .udp).setLabel .udp)).setView
        (s.pc + udpMin) (s.remaining - udpMin)).goto .finish)

/-- L4OTHER (R136): a success whatever the length; the IP payload is the payload view. The protocol number that selected
it is already in IP_PROTO. -/
def execL4other (_protocol : BitVec 8) (s : State) : Out :=
  .next (((s.setView s.pc s.remaining).setStatus ((s.status.setL4 .other).setLabel .protoNum)).goto .finish)

end Sys2Proof.Machine
end

