-- ==== Sys2Proof/Machine/Pipeline.lean ====
section
/-! DEFINITION. The composite DECODE (spec/43_pipeline.md R150 to R156), and which operation comes next when a DECODE
is taken layer by layer (spec/00_scope.md R5, spec/20_memory.md R64). -/

namespace Sys2Proof.Machine

/-- The next line of DECODE, unless an exception has ended it, in which case `DONE` is set (R150, R177). -/
def thenUnlessDone (o : Out) (f : State → Out) : Out :=
  match o with
  | .next s => if s.status.done then .next s else f s
  | .fault r => .fault r
  | .refused r => .refused r

/-- `L3_DISPATCH` (R110). -/
def l3Dispatch (s : State) : Out :=
  match s.regs.ethType with
  | none => .fault .selectorHoldsNoValue
  | some e =>
    if e = ethertypeIpv4 then execIpv4 s
    else if e = ethertypeIpv6 then execIpv6 s
    else execL3other e s

/-- `L4_DISPATCH` (R130). -/
def l4Dispatch (s : State) : Out :=
  match s.regs.ipProto with
  | none => .fault .selectorHoldsNoValue
  | some p =>
    if p = protoIcmp then execIcmp s
    else if p = protoTcp then execTcp s
    else if p = protoUdp then execUdp s
    else execL4other p s

/-- The lines of DECODE after layer 3 (R150, R151): layer 4 only after IPV4 or IPV6, then `DONE`. -/
def afterLayer3 (s : State) : Out :=
  if s.status.isL3 .v4 || s.status.isL3 .v6 then
    thenUnlessDone (l4Dispatch s) fun t => .next t.finishDecode
  else .next s.finishDecode

/-- DECODE (R150): one whole frame, as one atomic step (R5, R42). -/
def execDecode (s : State) : Out :=
  thenUnlessDone (execEth s.beginDecode) fun s1 =>
    thenUnlessDone (l3Dispatch s1) afterLayer3

/-! ## What comes next -/

/-- What the block finds when it looks for its next operation. -/
inductive Fetched where
  /-- Not busy: nothing to do. -/
  | nothing
  /-- The last line of DECODE, `DONE <- 1`, which is no operation of the table. -/
  | lastLine
  /-- An operation. -/
  | instr (i : Instr)
  /-- The selector register holds no value. -/
  | noSelector
  deriving DecidableEq, Repr

/-- The operation a row of selector bytes selects; a slot's selector always has the slot's number of bytes. -/
def selectFrom (slot : Slot) (bs : List Byte) : Fetched :=
  match decodeBytes slot bs with
  | .ok i => .instr i
  | .error _ => .noSelector

/-- The next operation (R64, R70): chosen by the position in the DECODE and the selector register of its slot. -/
def State.fetch (s : State) : Fetched :=
  match s.phase with
  | .idle => .nothing
  | .submitted => selectFrom .composite []
  | .layer2 => selectFrom .layer2 []
  | .layer3 =>
    match s.regs.ethType with
    | none => .noSelector
    | some e => selectFrom .layer3 (bytesBE 2 e.toNat)
  | .layer4 =>
    match s.regs.ipProto with
    | none => .noSelector
    | some p => selectFrom .layer4 (bytesBE 1 p.toNat)
  | .finish => .lastLine

end Sys2Proof.Machine
end

