-- ==== Sys2Proof/Machine/Dispatch.lean ====
section
/-! DEFINITION. One arm per operation of spec/opcode_table.json. -/

namespace Sys2Proof.Machine

def exec (i : Instr) (s : State) : Host.Outcome State Fault Refusal :=
  match i with
  | .eth => Sys2Proof.Machine.execEth s
  | .ipv4 => Sys2Proof.Machine.execIpv4 s
  | .ipv6 => Sys2Proof.Machine.execIpv6 s
  | .l3other ethertype => Sys2Proof.Machine.execL3other ethertype s
  | .icmp => Sys2Proof.Machine.execIcmp s
  | .tcp => Sys2Proof.Machine.execTcp s
  | .udp => Sys2Proof.Machine.execUdp s
  | .l4other protocol => Sys2Proof.Machine.execL4other protocol s
  | .decode => Sys2Proof.Machine.execDecode s

end Sys2Proof.Machine
end

