-- ==== Sys2Proof/Machine/Step.lean ====
section
/-! DEFINITION. One step of the block: the operation that comes next, run; and how the host's check places one. -/

namespace Sys2Proof.Machine

/-- One step. Not busy, the block holds its result unchanged (spec/10_state.md R44). A submitted frame is decoded as one
atomic DECODE (R42); a DECODE taken layer by layer runs the selected operation (R64), and at its end sets `DONE` (R150). -/
def step (s : State) : Host.Outcome State Fault Refusal :=
  match s.fetch with
  | .nothing => .next s
  | .lastLine => .next s.finishDecode
  | .instr i => exec i s
  | .noSelector => .fault .selectorHoldsNoValue

/-- `s` with the operation whose table bits are `w` next (log 9, log 10): a 16-bit ethertype is placed in ETH_TYPE with
layer 3 next, an 8-bit protocol number in IP_PROTO with layer 4 next, and no bits at all are a submitted frame, so that
DECODE is next. -/
def State.withFetchWord (s : State) (nbits w : Nat) : State :=
  if nbits = 16 then { s with regs := { s.regs with ethType := some (BitVec.ofNat 16 w) }, phase := .layer3 }
  else if nbits = 8 then { s with regs := { s.regs with ipProto := some (BitVec.ofNat 8 w) }, phase := .layer4 }
  else { s with phase := .submitted }

end Sys2Proof.Machine
end

