-- ==== Sys2Proof/Machine/Text.lean ====
section
/-! DEFINITION. The text forms the host computes from the block's registers (spec/30_encoding.md R84 to R87). They are
outside the block (spec/00_scope.md R4) and a function of its registers alone. -/

namespace Sys2Proof.Machine

/-- One hexadecimal digit, upper case (R84). -/
def hexDigit (v : BitVec 4) : Char :=
  if v.toNat < 10 then Char.ofNat (48 + v.toNat) else Char.ofNat (55 + v.toNat)

/-- Two hexadecimal digits, leading zero kept (R84). -/
def hexByte (b : Byte) : Text := [hexDigit (b.extractLsb' 4 4), hexDigit (b.extractLsb' 0 4)]

/-- A MAC address (R84): six two-digit renderings joined by colons, always 17 characters. -/
def macText (m : Mac) : Text :=
  hexByte (m.extractLsb' 40 8) ++ [':'] ++ hexByte (m.extractLsb' 32 8) ++ [':'] ++ hexByte (m.extractLsb' 24 8)
    ++ [':'] ++ hexByte (m.extractLsb' 16 8) ++ [':'] ++ hexByte (m.extractLsb' 8 8) ++ [':']
    ++ hexByte (m.extractLsb' 0 8)

/-- One decimal digit. -/
def decDigit (n : Nat) : Char := Char.ofNat (48 + n % 10)

/-- A byte as a decimal number, without leading zeros (R85, R87). -/
def decByte (b : Byte) : Text :=
  if b.toNat < 10 then [decDigit b.toNat]
  else if b.toNat < 100 then [decDigit (b.toNat / 10), decDigit b.toNat]
  else [decDigit (b.toNat / 100), decDigit (b.toNat / 10), decDigit b.toNat]

/-- An IPv4 address in dotted-quad form (R85). -/
def ipv4Text (a : Addr4) : Text :=
  decByte (a.extractLsb' 24 8) ++ ['.'] ++ decByte (a.extractLsb' 16 8) ++ ['.'] ++ decByte (a.extractLsb' 8 8)
    ++ ['.'] ++ decByte (a.extractLsb' 0 8)

/-- An IPv6 address: the open parameter `IPV6_TEXT_FORM` (R86, log 17). -/
def ipv6Text (a : Addr6) : Text := Config.ipv6Text a

/-- The label a code of `STATUS.LABEL` names (R34); 7 is never produced. -/
def Label.ofCode (c : BitVec 3) : Option Label :=
  if c = 0#3 then some .unknown
  else if c = 1#3 then some .icmp
  else if c = 2#3 then some .tcp
  else if c = 3#3 then some .udp
  else if c = 4#3 then some .protoNum
  else if c = 5#3 then some .ipv4
  else if c = 6#3 then some .ipv6
  else none

/-- The string of a label (R87); PROTO_NUM is the decimal protocol number, and has none where IP_PROTO holds no value. -/
def Label.text (l : Label) (proto : Option (BitVec 8)) : Option Text :=
  match l with
  | .unknown => some ['u', 'n', 'k', 'n', 'o', 'w', 'n']
  | .icmp => some ['I', 'C', 'M', 'P']
  | .tcp => some ['T', 'C', 'P']
  | .udp => some ['U', 'D', 'P']
  | .protoNum => proto.map decByte
  | .ipv4 => some ['I', 'P', 'v', '4']
  | .ipv6 => some ['I', 'P', 'v', '6']

/-- The protocol label of a result, as text (R87, R153). -/
def State.labelText (s : State) : Option Text :=
  match Label.ofCode s.status.labelCode with
  | none => none
  | some l => l.text s.regs.ipProto

end Sys2Proof.Machine
end

