-- ==== Sys2Proof/Machine/Record.lean ====
section
/-! DEFINITION. What the host makes of a result: the frame-derived members of a PacketRecord (spec/43_pipeline.md
R158). The members not derived from the frame are added in Machine/Capture.lean (R190). -/

namespace Sys2Proof.Machine

/-- The IP part of a record, under the variant `STATUS.L3_KIND` names (R34, R158), addresses also as text. -/
inductive IpPart where
  | none
  | v4 (h : Ip4Header) (src dst : Text)
  | v6 (h : Ip6Header) (src dst : Text)
  | other
  deriving DecidableEq, Repr

/-- The transport part of a record, under the variant `STATUS.L4_KIND` names (R34, R158). -/
inductive TransportPart where
  | none
  | icmp (h : IcmpHeader)
  | tcp (h : TcpHeader)
  | udp (h : UdpHeader)
  | other
  deriving DecidableEq, Repr

/-- The frame-derived members of a PacketRecord (R158). -/
structure Decoded where
  srcMac : Text
  dstMac : Text
  label : Text
  length : Nat
  /-- The ethertype, the third field of the EthernetHeader (R26), which R35 lists for every record. -/
  ethertype : BitVec 16
  ip : IpPart
  transport : TransportPart
  /-- The payload view's bytes (R88). -/
  payload : List Byte
  deriving DecidableEq, Repr

/-- The IPv4 group as a header, where it holds values (R27, R28). -/
def Regs.ip4 (r : Regs) : Option Ip4Header := do
  let ver ← r.ipVer
  let hlen ← r.ip4Hlen
  let ttl ← r.ip4Ttl
  let proto ← r.ipProto
  let src ← r.ip4Src
  let dst ← r.ip4Dst
  return { ver, hlen, ttl, proto, src, dst }

/-- The IPv6 group as a header, where it holds values (R27, R29). -/
def Regs.ip6 (r : Regs) : Option Ip6Header := do
  let ver ← r.ipVer
  let tc ← r.ip6Tc
  let flow ← r.ip6Flow
  let plen ← r.ip6Plen
  let proto ← r.ipProto
  let hlim ← r.ip6Hlim
  let src ← r.ip6Src
  let dst ← r.ip6Dst
  return { ver, tc, flow, plen, proto, hlim, src, dst }

/-- The ICMP group as a header, where it holds values (R30). -/
def Regs.icmp (r : Regs) : Option IcmpHeader := do
  let type ← r.icmpType
  let code ← r.icmpCode
  let csum ← r.icmpCsum
  return { type, code, csum }

/-- The TCP group as a header, where it holds values (R31). -/
def Regs.tcp (r : Regs) : Option TcpHeader := do
  let sport ← r.tcpSport
  let dport ← r.tcpDport
  let seq ← r.tcpSeq
  let ack ← r.tcpAck
  let hlen ← r.tcpHlen
  let flags ← r.tcpFlags
  return { sport, dport, seq, ack, hlen, flags }

/-- The UDP group as a header, where it holds values (R32). -/
def Regs.udp (r : Regs) : Option UdpHeader := do
  let sport ← r.udpSport
  let dport ← r.udpDport
  let len ← r.udpLen
  let csum ← r.udpCsum
  return { sport, dport, len, csum }

/-- The IP part of a result: the registers under the variant STATUS names (R35, R158). -/
def State.ipPart (s : State) : Option IpPart :=
  if s.status.isL3 .v4 then s.regs.ip4.map fun h => .v4 h (ipv4Text h.src) (ipv4Text h.dst)
  else if s.status.isL3 .v6 then s.regs.ip6.map fun h => .v6 h (ipv6Text h.src) (ipv6Text h.dst)
  else if s.status.isL3 .other then some .other
  else some .none

/-- The transport part of a result: the registers under the variant STATUS names (R35, R158). -/
def State.transportPart (s : State) : Option TransportPart :=
  if s.status.isL4 .icmp then s.regs.icmp.map .icmp
  else if s.status.isL4 .tcp then s.regs.tcp.map .tcp
  else if s.status.isL4 .udp then s.regs.udp.map .udp
  else if s.status.isL4 .other then some .other
  else some .none

/-- The record the host builds from a result (R158): none for a dropped frame (R155), and none before `DONE` (R197). -/
def State.decoded (s : State) : Option Decoded :=
  if s.status.done && !s.status.drop then do
    let srcMac ← s.regs.ethSrc.map macText
    let dstMac ← s.regs.ethDst.map macText
    let label ← s.labelText
    let length ← s.regs.frameLen
    let ethertype ← s.regs.ethType
    let ip ← s.ipPart
    let transport ← s.transportPart
    let payload ← s.payload
    return { srcMac, dstMac, label, length, ethertype, ip, transport, payload }
  else none

end Sys2Proof.Machine
end

