-- ==== Sys2Proof/Machine/Capture.lean ====
section
/-! DEFINITION. The host around the block (spec/60_exceptions.md R185 to R197, spec/70_reset_and_hazards.md R212): the
controller, the capture loop and the buffer. It is outside the hardware and no part of `State` (spec/10_state.md R41).
Each function here is one indivisible event of the host: its lock and its check-and-set (R193, log 19). -/

namespace Sys2Proof.Machine

/-- A frame off the link (R10): its bytes and its arrival time on the host's wall clock (R190, log 18). -/
structure RawFrame where
  bytes : List Byte
  time : Seconds
  deriving DecidableEq

/-- A PacketRecord (R158, R190). -/
structure PacketRecord where
  /-- The sequence number, 1-based (R190). -/
  number : Nat
  /-- Capture time less the first record's, in floating-point seconds (R190, R195). -/
  relative : Seconds
  /-- The arrival time (R190). -/
  captured : Seconds
  /-- The frame-derived members (R158). -/
  content : Decoded
  deriving DecidableEq

/-- Where the capture loop is (R189, R194). -/
inductive LoopAt where
  /-- No loop is active. -/
  | exited
  /-- At the top of an iteration, where it checks the running flag. -/
  | top
  /-- A frame is with the block; its decode is never cancelled. -/
  | decoding (f : RawFrame)
  deriving DecidableEq

/-- The host's state (R41, R188, R191) with the block it owns. -/
structure Session where
  block : State
  /-- The running flag: Running or Stopped (R188). -/
  running : Bool
  /-- The one capture loop (R185, R193). -/
  loop : LoopAt
  /-- The Capture Buffer, oldest record first (R191). -/
  buffer : List PacketRecord
  deriving DecidableEq

/-- What a caller is told (R188, R195). -/
inductive Response where
  | started
  | alreadyRunning
  | stopped
  | notRunning
  deriving DecidableEq, Repr

/-- A session that could not begin (R187). -/
inductive InitError where
  /-- CaptureInitializationError: the capture capability cannot be acquired. -/
  | captureInitialization
  deriving DecidableEq, Repr

/-- The status message of a response; the spec gives two of the four (R188, U20, log 18). -/
def Response.text : Response → Text
  | .started => Config.startedText
  | .alreadyRunning => ['a', 'l', 'r', 'e', 'a', 'd', 'y', ' ', 'r', 'u', 'n', 'n', 'i', 'n', 'g']
  | .stopped => Config.stoppedText
  | .notRunning => ['n', 'o', 't', ' ', 'r', 'u', 'n', 'n', 'i', 'n', 'g']

/-- The initial state of a session (R212): Stopped, the buffer empty, the block after reset. -/
def Session.initial : Session where
  block := State.reset
  running := false
  loop := .exited
  buffer := []

/-- Beginning a session (R187, R196): without the capture capability there is none, so it never runs. -/
def Session.acquire (capability : Bool) : Except InitError Session :=
  if capability then .ok Session.initial else .error .captureInitialization

/-- The anchor timestamp (R41, R212): the first record's capture time, unset while the buffer is empty. -/
def Session.anchor (h : Session) : Option Seconds := h.buffer.head?.map PacketRecord.captured

/-- `start()` (R188, R193). A loop that has not yet seen a stop keeps running: there is at most one (log 19). -/
def Session.start (h : Session) : Session × Response :=
  if h.running then (h, .alreadyRunning)
  else match h.loop with
    | .exited => ({ h with running := true, loop := .top }, .started)
    | .top => ({ h with running := true }, .started)
    | .decoding _ => ({ h with running := true }, .started)

/-- `stop()` (R188, R194): sets the flag and returns at once. -/
def Session.stop (h : Session) : Session × Response :=
  if h.running then ({ h with running := false }, .stopped) else (h, .notRunning)

/-- `snapshot()`, and `list packets` (R192, R195): the whole buffer at this moment, in order. -/
def Session.snapshot (h : Session) : List PacketRecord := h.buffer

/-- The relative timestamp a record appended now would get (R190): 0 if the buffer is empty, else the difference from
the first record's capture time. -/
def Session.relativeTo (h : Session) (t : Seconds) : Seconds :=
  match h.anchor with
  | none => 0
  | some a => t - a

/-- Numbering, timestamping and appending a record (R189, R190); a dropped frame makes none and takes no number. -/
def Session.append (h : Session) (f : RawFrame) : Session :=
  match h.block.decoded with
  | none => h
  | some d =>
    { h with buffer := h.buffer ++
        [{ number := h.buffer.length + 1, relative := h.relativeTo f.time, captured := f.time, content := d }] }

/-- One move of the capture loop (R189, R194) with a block of width `FLEN_BITS` (R6). `input` is what the non-blocking
read finds when the loop is at the top: `none` is NoDataAvailable (R186). A frame the block cannot be given is passed over (log 21). -/
def Session.loopMove (h : Session) (flenBits : Nat) (input : Option RawFrame) : Session :=
  match h.loop with
  | .exited => h
  | .top =>
    if h.running then
      match input with
      | none => h
      | some f =>
        match h.block.submit flenBits f.bytes f.bytes.length with
        | .next b => { h with block := b, loop := .decoding f }
        | .fault _ => h
        | .refused _ => h
    else { h with loop := .exited }
  | .decoding f =>
    match step h.block with
    | .next b =>
      if b.status.done then { ({ h with block := b } : Session).append f with loop := .top }
      else { h with block := b }
    | .fault _ => h
    | .refused _ => h

/-- What can happen to a session. -/
inductive HostEvent where
  | start
  | stop
  | move (input : Option RawFrame)
  deriving DecidableEq

/-- A session after an event. -/
def Session.after (h : Session) (flenBits : Nat) : HostEvent → Session
  | .start => h.start.1
  | .stop => h.stop.1
  | .move input => h.loopMove flenBits input

/-- A session after a list of events, in order. -/
def Session.afterAll (h : Session) (flenBits : Nat) : List HostEvent → Session
  | [] => h
  | e :: es => Session.afterAll (h.after flenBits e) flenBits es

end Sys2Proof.Machine
end

