-- ==== Sys2Proof/Safety.lean ====
section
/-! DEFINITION. The terms claims are stated in: the reachable STATUS values (spec/10_state.md R34), the invariant of the
block, what each operation writes and reads (spec/10_state.md R25 to R32, spec/20_memory.md R55), the outcome tables of
spec/43_pipeline.md R153 and R154, and the invariant of the host's buffer. -/

namespace Sys2Proof.Machine

/-! ## Outcomes -/

/-- The STATUS values a DECODE can end with: the sixteen of R34 less the reset value (R156). -/
def doneStatuses : List Status :=
  [0x0003#16, 0x000D#16, 0x0081#16, 0x0415#16, 0x0419#16, 0x0825#16, 0x0829#16, 0x0A25#16, 0x0A29#16, 0x0C35#16,
   0x0C39#16, 0x1045#16, 0x1049#16, 0x1505#16, 0x1909#16]

/-- The result registers and the STATUS value `st` describe a frame of length `FLEN` (R35, R154, R155 and the
properties of spec/95_test_vectors.md section 2.8). -/
structure State.Describes (s : State) (st : Status) : Prop where
  status_mem : st ∈ doneStatuses
  frameLen_eq : s.regs.frameLen = some s.flen
  /-- R35: a register holds a value exactly when STATUS lists it. -/
  holds_iff : ∀ r : Reg, (s.regs.read r).isSome = st.lists r
  /-- A frame is dropped exactly when it is shorter than 14 bytes. -/
  drop_iff : st.drop = true ↔ s.flen < 14
  /-- The payload view is a suffix of the frame that starts after the Ethernet header (R154, R161). -/
  view : st.drop = false → ∃ off len : Nat, s.regs.payOff = some off ∧ s.regs.payLen = some len ∧
    14 ≤ off ∧ off + len = s.flen
  v4 : st.isL3 .v4 = true → s.regs.ethType = some ethertypeIpv4 ∧ 34 ≤ s.flen
  v6 : st.isL3 .v6 = true → s.regs.ethType = some ethertypeIpv6 ∧ 54 ≤ s.flen
  other : st.isL3 .other = true → s.regs.ethType ≠ some ethertypeIpv4 ∧ s.regs.ethType ≠ some ethertypeIpv6
  icmp : st.isL4 .icmp = true → s.regs.ipProto = some protoIcmp
  tcp : st.isL4 .tcp = true → s.regs.ipProto = some protoTcp
  udp : st.isL4 .udp = true → s.regs.ipProto = some protoUdp
  overrun : st.doffOvr = true → s.regs.payOff = some s.flen ∧ s.regs.payLen = some 0

/-- The registers after the first lines of DECODE: only FRAME_LEN holds a value (R150). -/
def State.begunRegs (s : State) : Regs := { Regs.empty with frameLen := some s.flen }

/-- What holds at each position of the block. -/
def State.AtPhase (s : State) : Prop :=
  match s.phase with
  | .idle => (s.status = 0x0000#16 ∧ s.regs = Regs.empty) ∨ s.Describes s.status
  | .submitted => s.status = 0x0000#16 ∧ s.regs = Regs.empty
  | .layer2 => s.status = 0x0000#16 ∧ s.regs = s.begunRegs ∧ s.pc = 0
  | .layer3 => s.status = 0x0000#16 ∧ s.pc = 14 ∧ 14 ≤ s.flen ∧
      ∃ e : EthHeader, s.regs = s.begunRegs.putEth e
  | .layer4 => s.pc ≤ s.flen ∧ ∃ e : EthHeader,
      (s.status = 0x0004#16 ∧ e.etherType = ethertypeIpv4 ∧ 34 ≤ s.flen ∧
        ∃ h : Ip4Header, s.regs = (s.begunRegs.putEth e).putIp4 h ∧ s.pc = 14 + h.hlen.toNat) ∨
      (s.status = 0x0008#16 ∧ e.etherType = ethertypeIpv6 ∧ s.pc = 54 ∧
        ∃ h : Ip6Header, s.regs = (s.begunRegs.putEth e).putIp6 h)
  | .finish => s.status.done = false ∧ s.Describes s.status.setDone

/-- The values the parse cursor takes (R22): 0, or 14 and a multiple of 4 up to 60 (54 among them). -/
def State.PcLegal (s : State) : Prop := s.pc = 0 ∨ ∃ k ≤ 15, s.pc = 14 + 4 * k

/-- The invariant of the block: the frame buffer in canonical form and inside the frame, a legal cursor, and registers
and STATUS as the position says. -/
structure State.Inv (s : State) : Prop where
  memory : s.frame.wf = true
  inFrame : ∀ c ∈ s.frame, c.1 < s.flen
  cursor : s.PcLegal
  position : s.AtPhase

/-- Every offset, length and register of the state fits its register in a block of width `FLEN_BITS` (R6, R22, R25). -/
structure State.Fits (flenBits : Nat) (s : State) : Prop where
  flen : s.flen < 2 ^ flenBits
  pc : s.pc < 2 ^ flenBits
  regs : ∀ (r : Reg) (v : Nat), s.regs.read r = some v → v < 2 ^ r.width flenBits

/-- The host's duty of R217 as a premise: it holds a byte at every offset below `FLEN`. -/
def State.FrameComplete (s : State) : Prop := ∀ a < s.flen, (s.frame.find a).isSome = true

/-- The frame holds the bytes `bs` from offset `a` up. -/
def State.Holds (s : State) (a : Nat) (bs : List Byte) : Prop :=
  ∀ i (h : i < bs.length), s.frameByte (a + i) = bs[i]

/-! ## What an operation writes and reads -/

end Sys2Proof.Machine

namespace Sys2Proof

open Machine

/-- The result registers a layer operation, or the exception it raises, may write (R25 to R32, R177). -/
def Instr.writes : Instr → List Reg
  | .eth => [.ethDst, .ethSrc, .ethType]
  | .ipv4 => [.ipVer, .ipProto, .ip4Hlen, .ip4Ttl, .ip4Src, .ip4Dst, .payOff, .payLen]
  | .ipv6 => [.ipVer, .ipProto, .ip6Tc, .ip6Flow, .ip6Plen, .ip6Hlim, .ip6Src, .ip6Dst, .payOff, .payLen]
  | .l3other _ => [.payOff, .payLen]
  | .icmp => [.icmpType, .icmpCode, .icmpCsum, .payOff, .payLen]
  | .tcp => [.tcpSport, .tcpDport, .tcpSeq, .tcpAck, .tcpHlen, .tcpFlags, .payOff, .payLen]
  | .udp => [.udpSport, .udpDport, .udpLen, .udpCsum, .payOff, .payLen]
  | .l4other _ => [.payOff, .payLen]
  | .decode => Reg.all

/-- The STATUS bits a layer operation, or the exception it raises, may write (the "Flags written" of each operation and
R177): ETH DONE and DROP; IPV4 and IPV6 DONE, L3_KIND, TRUNC, LABEL; and so on. -/
def Instr.statusMask : Instr → Status
  | .eth => 0x0003#16
  | .ipv4 => 0x1D8D#16
  | .ipv6 => 0x1D8D#16
  | .l3other _ => 0x1C0C#16
  | .icmp => 0x1DF1#16
  | .tcp => 0x1FF1#16
  | .udp => 0x1DF1#16
  | .l4other _ => 0x1C70#16
  | .decode => 0xFFFF#16

/-- The frame offsets an operation that starts at cursor `pc` may read (R55); DECODE reads none at or above 88 (R161). -/
def Instr.footprint (i : Instr) (pc : Nat) : List Nat :=
  match i with
  | .eth => List.range 14
  | .ipv4 => ([0, 8, 9, 12, 13, 14, 15, 16, 17, 18, 19] : List Nat).map (pc + ·)
  | .ipv6 => (List.range 40).map (pc + ·)
  | .l3other _ => []
  | .icmp => (List.range 4).map (pc + ·)
  | .tcp => (List.range 14).map (pc + ·)
  | .udp => (List.range 8).map (pc + ·)
  | .l4other _ => []
  | .decode => List.range 88

end Sys2Proof

namespace Sys2Proof.Machine

/-! ## The outcome of a DECODE as a function of the frame (R153, R154) -/

/-- The ethertype of a frame (R71). -/
def State.frameEthertype (s : State) : BitVec 16 := s.frameByte 12 ++ s.frameByte 13

/-- The IPv4 header length of a frame in bytes: four times the low nibble of byte 14 (R72). -/
def State.frameHlen (s : State) : Nat := 4 * ((s.frameByte 14).extractLsb' 0 4).toNat

/-- The TCP data offset in bytes of a header that starts at `l4` (R75). -/
def State.frameDataOffset (s : State) (l4 : Nat) : Nat := 4 * ((s.frameByte (l4 + 12)).extractLsb' 4 4).toNat

/-- STATUS after layer 4 (R34), for an IP payload that starts at `l4` with protocol number `p`; `v6` says which IP. -/
def State.l4Status (s : State) (v6 : Bool) (l4 : Nat) (p : BitVec 8) : Status :=
  let n := s.flen - l4
  let truncated : Status := if v6 then 0x1909#16 else 0x1505#16
  if p = 1#8 then if n < 4 then truncated else if v6 then 0x0419#16 else 0x0415#16
  else if p = 6#8 then
    if n < 14 then truncated
    else if s.frameDataOffset l4 > n then if v6 then 0x0A29#16 else 0x0A25#16
    else if v6 then 0x0829#16 else 0x0825#16
  else if p = 17#8 then if n < 8 then truncated else if v6 then 0x0C39#16 else 0x0C35#16
  else if v6 then 0x1049#16 else 0x1045#16

/-- The start of the payload view after layer 4 (R154). -/
def State.l4ViewStart (s : State) (l4 : Nat) (p : BitVec 8) : Nat :=
  let n := s.flen - l4
  if p = 1#8 then if n < 4 then l4 else l4 + 4
  else if p = 6#8 then
    if n < 14 then l4
    else if s.frameDataOffset l4 > n then s.flen
    else l4 + s.frameDataOffset l4
  else if p = 17#8 then if n < 8 then l4 else l4 + 8
  else l4

/-- STATUS after a DECODE, as a function of the frame (R34, R153). -/
def State.outcomeStatus (s : State) : Status :=
  let n := s.flen - 14
  if s.flen < 14 then 0x0003#16
  else if s.frameEthertype = 0x0800#16 then
    if n < 20 ∨ n < s.frameHlen then 0x0081#16
    else s.l4Status false (14 + s.frameHlen) (s.frameByte 23)
  else if s.frameEthertype = 0x86DD#16 then
    if n < 40 then 0x0081#16 else s.l4Status true 54 (s.frameByte 20)
  else 0x000D#16

/-- The start of the payload view after a DECODE that does not drop the frame, as a function of the frame (R154). -/
def State.outcomeViewStart (s : State) : Nat :=
  let n := s.flen - 14
  if s.frameEthertype = 0x0800#16 then
    if n < 20 ∨ n < s.frameHlen then 14
    else s.l4ViewStart (14 + s.frameHlen) (s.frameByte 23)
  else if s.frameEthertype = 0x86DD#16 then
    if n < 40 then 14 else s.l4ViewStart 54 (s.frameByte 20)
  else 14

/-! ## The host's buffer -/

/-- Numbers and relative timestamps of a buffer (R190, R191): record `i` has number `i + 1`; the first record's relative
timestamp is 0, a later one's the difference of its capture time from the first record's. -/
def Numbered (buffer : List PacketRecord) : Prop :=
  ∀ (i : Nat) (r : PacketRecord), buffer[i]? = some r →
    r.number = i + 1 ∧ (i = 0 → r.relative = 0) ∧
      (0 < i → ∀ r0 : PacketRecord, buffer[0]? = some r0 → r.relative = r.captured - r0.captured)

/-- The invariant of a session: the buffer is numbered, the block is in order, and the loop waits for a decode exactly
when the block is busy. -/
structure Session.Inv (h : Session) : Prop where
  numbered : Numbered h.buffer
  block : h.block.Inv
  waiting : (∃ f, h.loop = .decoding f) ↔ h.block.busy = true

end Sys2Proof.Machine
end

