-- ==== Sys2Proof/Certificates/Slice0/Obligations.lean ====
section
/-! DEFINITION. The statements for the provers, each from the rules of spec/ its docstring cites. STATUS masks and values
are written out as numbers from spec/10_state.md R33 and R34, not through the model's setters. -/

open Sys2Proof Sys2Proof.Machine

/-! ## Reset and the hand-off -/

/-- R40: after reset STATUS is 0x0000, the cursor 0, the block not busy, and no result register holds a value. -/
def Obligations.ResetStateHoldsNoResult : Prop :=
  State.reset.status = 0x0000#16 ∧ State.reset.pc = 0 ∧ State.reset.busy = false ∧
    ∀ r : Reg, State.reset.regs.read r = none

/-- R210, R211: reset, whenever it is asserted, gives the state of R40; FRAME and FLEN are the host's and stay. -/
def Obligations.AssertedResetAbandonsEverything : Prop :=
  ∀ s : State, s.assertReset.status = 0x0000#16 ∧ s.assertReset.pc = 0 ∧ s.assertReset.busy = false ∧
    (∀ r : Reg, s.assertReset.regs.read r = none) ∧ s.assertReset.frame = s.frame ∧ s.assertReset.flen = s.flen

/-- R42, R44, R57: in a block of any width, a submit of a frame with its exact length, when not busy, makes the block busy
with exactly those bytes, discards the result before, and the next step is DECODE. -/
def Obligations.SubmitHandsOverTheFrame : Prop :=
  ∀ (flenBits : Nat) (s : State) (bytes : List Byte), s.busy = false → bytes.length < 2 ^ flenBits →
    ∃ t, s.submit flenBits bytes bytes.length = .next t ∧ t.busy = true ∧ t.flen = bytes.length ∧
      t.FrameComplete ∧ t.Holds 0 bytes ∧ t.status = 0x0000#16 ∧ (∀ r : Reg, t.regs.read r = none) ∧
      step t = exec .decode t

/-- R215, R217, R6: the model gives a submit no move while busy, nor for a length above FLEN_MAX = 2^FLEN_BITS - 1. -/
def Obligations.SubmitStopsOutsideItsDomain : Prop :=
  ∀ (flenBits : Nat) (s : State) (bytes : List Byte) (flen : Nat),
    (s.busy = true → s.submit flenBits bytes flen = .refused .submitWhileBusy) ∧
    (s.busy = false → 2 ^ flenBits ≤ flen → s.submit flenBits bytes flen = .refused .frameTooLong)

/-- R44: once DONE is 1, a step changes nothing: STATUS and every register keep their values. -/
def Obligations.ResultStaysUntilNextSubmit : Prop :=
  ∀ s : State, s.Inv → s.status.done = true → step s = .next s

/-- R35, R216: what the host can read is exactly what STATUS lists, and nothing before DONE. -/
def Obligations.HostReadsExactlyWhatStatusLists : Prop :=
  ∀ s : State, s.Inv → ∀ r : Reg, (s.hostRead r).isSome = s.status.lists r

/-! ## The frame as memory -/

/-- R51: MemRead is the big-endian number of its bytes, defined only inside the frame. -/
def Obligations.MemReadIsBigEndian : Prop :=
  ∀ (s : State) (a k : Nat),
    (a + k ≤ s.flen →
      s.memRead a k = some (∑ i ∈ Finset.range k, (s.frameByte (a + i)).toNat * 256 ^ (k - 1 - i))) ∧
    (s.flen < a + k → s.memRead a k = none)

/-- R52, R54: a wide read, at any offset, is the concatenation of the reads it splits into. -/
def Obligations.WideReadIsItsParts : Prop :=
  ∀ (s : State) (a j k : Nat), a + (j + k) ≤ s.flen →
    ∃ hi lo, s.memRead a j = some hi ∧ s.memRead (a + j) k = some lo ∧
      s.memRead a (j + k) = some (hi * 256 ^ k + lo)

/-- R21, R56: no operation, the composite included, changes FRAME or FLEN. -/
def Obligations.OperationsNeverWriteTheFrame : Prop :=
  ∀ (i : Instr) (s t : State), exec i s = .next t →
    t.frame = s.frame ∧ t.flen = s.flen ∧ ∀ a : Nat, t.frameByte a = s.frameByte a

/-- A submit leaves the frame buffer in canonical form, with no cell at or above FLEN, whatever bytes and length the host
gives. The canonical form is the model's. -/
def Obligations.SubmittedFrameIsCanonical : Prop :=
  ∀ (flenBits : Nat) (s t : State) (bytes : List Byte) (flen : Nat), s.submit flenBits bytes flen = .next t →
    t.frame.wf = true ∧ (∀ c ∈ t.frame, c.1 < t.flen) ∧ t.flen = flen

/-! ## Selectors and header formats -/

/-- R78, R79: decoding the selector of a well-formed operation gives the operation back, at every selector value. -/
def Obligations.DecodeOfEncodeGivesTheOperation : Prop :=
  ∀ i : Instr, i.wf = true → decodeBytes (encode i).1 (encode i).2 = .ok i

/-- R78, R79: what decodes is well formed, and encodes to the bytes it was read from. -/
def Obligations.EncodeOfDecodeGivesTheSelector : Prop :=
  ∀ (slot : Slot) (bs : List Byte) (i : Instr), decodeBytes slot bs = .ok i → i.wf = true ∧ encode i = (slot, bs)

/-- R70, R78, R79 on words written out by hand, in frame order. -/
def Obligations.KnownSelectorsDecode : Prop :=
  decodeBytes .composite [] = .ok .decode ∧ decodeBytes .layer2 [] = .ok .eth ∧
  decodeBytes .layer3 [0x08#8, 0x00#8] = .ok .ipv4 ∧ decodeBytes .layer3 [0x86#8, 0xDD#8] = .ok .ipv6 ∧
  decodeBytes .layer3 [0x00#8, 0x08#8] = .ok (.l3other 0x0008#16) ∧
  decodeBytes .layer3 [0x08#8, 0x06#8] = .ok (.l3other 0x0806#16) ∧
  decodeBytes .layer4 [0x01#8] = .ok .icmp ∧ decodeBytes .layer4 [0x06#8] = .ok .tcp ∧
  decodeBytes .layer4 [0x11#8] = .ok .udp ∧ decodeBytes .layer4 [0x3A#8] = .ok (.l4other 0x3A#8)

/-- R78: layer-3 dispatch on the two ethertype bytes in frame order; every value selects exactly one operation. -/
def Obligations.EthertypeDispatchTable : Prop :=
  ∀ hi lo : Byte,
    (decodeBytes .layer3 [hi, lo] = .ok .ipv4 ↔ hi = 0x08#8 ∧ lo = 0x00#8) ∧
    (decodeBytes .layer3 [hi, lo] = .ok .ipv6 ↔ hi = 0x86#8 ∧ lo = 0xDD#8) ∧
    (decodeBytes .layer3 [hi, lo] = .ok (.l3other (hi ++ lo)) ↔
      ¬ (hi = 0x08#8 ∧ lo = 0x00#8) ∧ ¬ (hi = 0x86#8 ∧ lo = 0xDD#8))

/-- R79: layer-4 dispatch on the protocol number; every value selects exactly one operation. -/
def Obligations.ProtocolDispatchTable : Prop :=
  ∀ p : Byte,
    (decodeBytes .layer4 [p] = .ok .icmp ↔ p = 1#8) ∧
    (decodeBytes .layer4 [p] = .ok .tcp ↔ p = 6#8) ∧
    (decodeBytes .layer4 [p] = .ok .udp ↔ p = 17#8) ∧
    (decodeBytes .layer4 [p] = .ok (.l4other p) ↔ p ≠ 1#8 ∧ p ≠ 6#8 ∧ p ≠ 17#8)

/-- R71 to R73, R77: an Ethernet, IPv4 or IPv6 header written into the frame anywhere reads back with every field, and
the bytes never read do not matter. -/
def Obligations.EthernetAndIpHeadersReadBack : Prop :=
  (∀ (s : State) (a : Nat) (h : EthHeader), a + 14 ≤ s.flen → s.Holds a h.bytes → s.readEth a = some h) ∧
  (∀ (s : State) (a : Nat) (h : Ip4Header) (u1 : BitVec 56) (u10 : BitVec 16), h.hlen.toNat % 4 = 0 →
    a + 20 ≤ s.flen → s.Holds a (h.bytes u1 u10) → s.readIp4 a = some h) ∧
  (∀ (s : State) (a : Nat) (h : Ip6Header), a + 40 ≤ s.flen → s.Holds a h.bytes → s.readIp6 a = some h)

/-- R74 to R77: an ICMP, TCP or UDP header written into the frame anywhere reads back with every field, and the bits
never read do not matter. -/
def Obligations.TransportHeadersReadBack : Prop :=
  (∀ (s : State) (a : Nat) (h : IcmpHeader), a + 4 ≤ s.flen → s.Holds a h.bytes → s.readIcmp a = some h) ∧
  (∀ (s : State) (a : Nat) (h : TcpHeader) (u : BitVec 6), h.hlen.toNat % 4 = 0 → a + 14 ≤ s.flen →
    s.Holds a (h.bytes u) → s.readTcp a = some h) ∧
  (∀ (s : State) (a : Nat) (h : UdpHeader), a + 8 ≤ s.flen → s.Holds a h.bytes → s.readUdp a = some h)

/-! ## Steps -/

/-- R64, R70, R42: a step runs the operation the selector of its position decodes to, and nothing around it; not busy it
changes nothing; after the last operation it sets DONE. The positions are the model's own (log 4). -/
def Obligations.StepRunsTheSelectedOperation : Prop :=
  ∀ s : State,
    (s.phase = .idle → step s = .next s) ∧
    (s.phase = .submitted → step s = exec .decode s) ∧
    (s.phase = .layer2 → step s = exec .eth s) ∧
    (∀ e, s.phase = .layer3 → s.regs.ethType = some e →
      ∃ i, i.wf = true ∧ decodeBytes .layer3 (bytesBE 2 e.toNat) = .ok i ∧ step s = exec i s) ∧
    (∀ p, s.phase = .layer4 → s.regs.ipProto = some p →
      ∃ i, i.wf = true ∧ decodeBytes .layer4 (bytesBE 1 p.toNat) = .ok i ∧ step s = exec i s) ∧
    (s.phase = .finish → step s = .next { s with status := s.status ||| 0x0001#16, phase := .idle })

/-- R5, R150: taking a DECODE layer by layer, at most four steps, gives exactly what the atomic DECODE gives, from every
state. How it begins (`beginDecode`) and the positions it passes are the model's own (log 4). -/
def Obligations.LayeredRunEqualsAtomicDecode : Prop :=
  ∀ s : State, core.run 4 s.beginDecode = exec .decode s

/-- No operation stops: from every state every operation answers a next state, so no read falls outside the frame (R53)
and no exception escapes (R156). -/
def Obligations.EveryOperationCompletes : Prop :=
  ∀ (i : Instr) (s : State), ∃ t, exec i s = .next t

/-- R22, R33 to R36, R154 and the properties of 95_test_vectors.md 2.8, as the invariant `State.Inv`: every step keeps it. -/
def Obligations.EveryStepKeepsTheInvariant : Prop :=
  ∀ s t : State, s.Inv → step s = .next t → t.Inv

/-- The state after reset meets the invariant. That `frame` is empty there is the model's choice (log 3). -/
def Obligations.ResetMeetsTheInvariant : Prop := State.reset.Inv

/-- What the host does keeps the invariant: reset at any time, every submit that is accepted, and beginning a submitted
frame layer by layer. -/
def Obligations.HostActionsKeepTheInvariant : Prop :=
  ∀ s : State, s.Inv →
    s.assertReset.Inv ∧
    (∀ (flenBits : Nat) (bytes : List Byte) (flen : Nat) (t : State), s.submit flenBits bytes flen = .next t → t.Inv) ∧
    (s.phase = .submitted → s.beginDecode.Inv)

/-- From every state that meets the invariant a step answers a next state: the block never stops (R156). -/
def Obligations.InvariantStatesNeverStop : Prop :=
  ∀ s : State, s.Inv → ∃ t, step s = .next t

/-! ## The layer operations -/

/-- R100, R101: with 14 bytes or more ETH writes the Ethernet group and moves the cursor to 14; with fewer it sets
DROP and DONE, writes nothing else, and the block is not busy. `p` is the model's own position (log 4). -/
def Obligations.EthDecodesOrDrops : Prop :=
  ∀ s : State,
    (14 ≤ s.flen → ∃ p, exec .eth s = .next
      { s with
        regs := { s.regs with
          ethDst := some (s.wordAt 48 0), ethSrc := some (s.wordAt 48 6), ethType := some (s.wordAt 16 12) }
        pc := 14
        phase := p }) ∧
    (s.flen < 14 → exec .eth s = .next { s with status := s.status ||| 0x0003#16, phase := .idle })

/-- R111: with 20 bytes and the declared header length present, IPV4 writes its six registers and L3_KIND = V4 and moves
the cursor past the header; else it raises TruncatedFrame(L3). `p` is the model's own position (log 4). -/
def Obligations.Ipv4DecodesTheHeader : Prop :=
  ∀ (s : State) (a n hlen : Nat) (b0 : Byte), a = s.pc → n = s.flen - a → b0 = s.frameByte a →
    hlen = 4 * (b0.extractLsb' 0 4).toNat →
    (20 ≤ n → hlen ≤ n → ∃ p, exec .ipv4 s = .next
      { s with
        regs := { s.regs with
          ipVer := some (b0.extractLsb' 4 4), ip4Hlen := some (BitVec.ofNat 6 hlen),
          ip4Ttl := some (s.frameByte (a + 8)), ipProto := some (s.frameByte (a + 9)),
          ip4Src := some (s.wordAt 32 (a + 12)), ip4Dst := some (s.wordAt 32 (a + 16)) }
        status := (s.status &&& ~~~0x000C#16) ||| 0x0004#16
        pc := a + hlen
        phase := p }) ∧
    ((n < 1 ∨ n < hlen ∨ n < 20) → exec .ipv4 s = .next s.enterTruncatedL3)

/-- R114: with 40 bytes present IPV6 writes its eight registers and L3_KIND = V6 and moves the cursor by 40; else it
raises TruncatedFrame(L3). `p` is the model's own position (log 4). -/
def Obligations.Ipv6DecodesTheHeader : Prop :=
  ∀ (s : State) (a n : Nat) (w : BitVec 32), a = s.pc → n = s.flen - a → w = s.wordAt 32 a →
    (40 ≤ n → ∃ p, exec .ipv6 s = .next
      { s with
        regs := { s.regs with
          ipVer := some (w.extractLsb' 28 4), ip6Tc := some (w.extractLsb' 20 8), ip6Flow := some (w.extractLsb' 0 20),
          ip6Plen := some (s.wordAt 16 (a + 4)), ipProto := some (s.frameByte (a + 6)),
          ip6Hlim := some (s.frameByte (a + 7)),
          ip6Src := some (s.wordAt 128 (a + 8)), ip6Dst := some (s.wordAt 128 (a + 24)) }
        status := (s.status &&& ~~~0x000C#16) ||| 0x0008#16
        pc := a + 40
        phase := p }) ∧
    (n < 40 → exec .ipv6 s = .next s.enterTruncatedL3)

/-- R177: exactly what each of the three exception entries writes; everything else is left as it is. After it the block
is not busy (R42). -/
def Obligations.ExceptionEntriesWriteTheOutcome : Prop :=
  ∀ s : State,
    s.enterFrameTooShort = { s with status := s.status ||| 0x0003#16, phase := .idle } ∧
    s.enterTruncatedL3 =
      { s with
        regs := { s.regs with payOff := some 14, payLen := some (s.flen - 14) }
        status := (s.status &&& ~~~0x1D80#16) ||| 0x0081#16
        phase := .idle } ∧
    s.enterTruncatedL4 =
      { s with
        regs := { s.regs with
          payOff := some s.pc, payLen := some (s.flen - s.pc) }
        status := (s.status &&& ~~~0x1D80#16) |||
          (if s.status &&& 0x000C#16 = 0x0004#16 then 0x1501#16 else 0x1901#16)
        phase := .idle }

/-- R171: the complete list of causes of TruncatedFrame, both ways; ETH, L3OTHER and L4OTHER never raise it. -/
def Obligations.TruncationCausesAreComplete : Prop :=
  ∀ (s : State) (n : Nat), n = s.flen - s.pc →
    (exec .ipv4 s = .next s.enterTruncatedL3 ↔
      n < 1 ∨ n < 4 * ((s.frameByte s.pc).extractLsb' 0 4).toNat ∨ n < 20) ∧
    (exec .ipv6 s = .next s.enterTruncatedL3 ↔ n < 40) ∧
    (exec .icmp s = .next s.enterTruncatedL4 ↔ n < 4) ∧
    (exec .tcp s = .next s.enterTruncatedL4 ↔ n < 14) ∧
    (exec .udp s = .next s.enterTruncatedL4 ↔ n < 8) ∧
    ∀ (i : Instr) (t : State), (i = .eth ∨ (∃ e, i = .l3other e) ∨ ∃ p, i = .l4other p) → exec i s = .next t →
      t.status.truncCode = s.status.truncCode

/-- R116: L3OTHER sets L3_KIND = OTHER and LABEL = UNKNOWN and makes the rest of the frame the payload view, whatever
the ethertype and the length. `q` is the model's own position (log 4). -/
def Obligations.L3OtherKeepsThePayload : Prop :=
  ∀ (s : State) (e : BitVec 16), ∃ q, exec (.l3other e) s = .next
    { s with
      regs := { s.regs with
        payOff := some s.pc, payLen := some (s.flen - s.pc) }
      status := (s.status &&& ~~~0x1C0C#16) ||| 0x000C#16
      phase := q }

/-- R131: with 4 bytes present ICMP writes its three registers, L4_KIND and LABEL, and the payload view after them; else
it raises TruncatedFrame(L4). `p` is the model's own position (log 4). -/
def Obligations.IcmpDecodesTheHeader : Prop :=
  ∀ (s : State) (a n : Nat), a = s.pc → n = s.flen - a →
    (4 ≤ n → ∃ p, exec .icmp s = .next
      { s with
        regs := { s.regs with
          icmpType := some (s.frameByte a), icmpCode := some (s.frameByte (a + 1)),
          icmpCsum := some (s.wordAt 16 (a + 2)),
          payOff := some (a + 4), payLen := some (n - 4) }
        status := (s.status &&& ~~~0x1C70#16) ||| 0x0410#16
        phase := p }) ∧
    (n < 4 → exec .icmp s = .next s.enterTruncatedL4)

/-- R132, R133: with 14 bytes present TCP writes its six registers, L4_KIND and LABEL, and the payload view at the data
offset, or the empty view at the end of the frame with DOFF_OVR where the offset runs over; else it raises
TruncatedFrame(L4). `p` is the model's own position (log 4). -/
def Obligations.TcpDecodesTheHeader : Prop :=
  ∀ (s : State) (a n off : Nat) (w : BitVec 16), a = s.pc → n = s.flen - a → w = s.wordAt 16 (a + 12) →
    off = 4 * (w.extractLsb' 12 4).toNat →
    (14 ≤ n → ∃ p, exec .tcp s = .next
      { s with
        regs := { s.regs with
          tcpSport := some (s.wordAt 16 a), tcpDport := some (s.wordAt 16 (a + 2)),
          tcpSeq := some (s.wordAt 32 (a + 4)), tcpAck := some (s.wordAt 32 (a + 8)),
          tcpHlen := some (BitVec.ofNat 6 off), tcpFlags := some (w.extractLsb' 0 6),
          payOff := some (if n < off then s.flen else a + off),
          payLen := some (if n < off then 0 else n - off) }
        status := (s.status &&& ~~~0x1C70#16) ||| (if n < off then 0x0A20#16 else 0x0820#16)
        phase := p }) ∧
    (n < 14 → exec .tcp s = .next s.enterTruncatedL4)

/-- R134: bit k of TCP_FLAGS is bit k of header byte 13, for each of the six flags; the others reach no register. -/
def Obligations.TcpFlagsAreTheLowBitsOfByte13 : Prop :=
  ∀ s : State, 14 ≤ s.flen - s.pc → ∃ t f, exec .tcp s = .next t ∧ t.regs.tcpFlags = some f ∧
    ∀ k < 6, f.getLsbD k = (s.frameByte (s.pc + 13)).getLsbD k

/-- R135: with 8 bytes present UDP writes its four registers, L4_KIND and LABEL, and the payload view after them; else it
raises TruncatedFrame(L4). `p` is the model's own position (log 4). -/
def Obligations.UdpDecodesTheHeader : Prop :=
  ∀ (s : State) (a n : Nat), a = s.pc → n = s.flen - a →
    (8 ≤ n → ∃ p, exec .udp s = .next
      { s with
        regs := { s.regs with
          udpSport := some (s.wordAt 16 a), udpDport := some (s.wordAt 16 (a + 2)),
          udpLen := some (s.wordAt 16 (a + 4)), udpCsum := some (s.wordAt 16 (a + 6)),
          payOff := some (a + 8), payLen := some (n - 8) }
        status := (s.status &&& ~~~0x1C70#16) ||| 0x0C30#16
        phase := p }) ∧
    (n < 8 → exec .udp s = .next s.enterTruncatedL4)

/-- R136: L4OTHER sets L4_KIND = OTHER and LABEL = PROTO_NUM and makes the IP payload the payload view, whatever the
protocol number and the length. `q` is the model's own position (log 4). -/
def Obligations.L4OtherKeepsThePayload : Prop :=
  ∀ (s : State) (p : BitVec 8), ∃ q, exec (.l4other p) s = .next
    { s with
      regs := { s.regs with
        payOff := some s.pc, payLen := some (s.flen - s.pc) }
      status := (s.status &&& ~~~0x1C70#16) ||| 0x1040#16
      phase := q }

/-- R73 in byte terms: version is byte 0 bits 7:4; traffic class byte 0 bits 3:0 then byte 1 bits 7:4; flow label byte 1
bits 3:0 then bytes 2 and 3. -/
def Obligations.Ip6FirstWordSplitsAcrossBytes : Prop :=
  ∀ (s : State) (a : Nat), a = s.pc → 40 ≤ s.flen - a →
    ∃ t, exec .ipv6 s = .next t ∧
      t.regs.ipVer = some ((s.frameByte a).extractLsb' 4 4) ∧
      t.regs.ip6Tc = some ((s.frameByte a).extractLsb' 0 4 ++ (s.frameByte (a + 1)).extractLsb' 4 4) ∧
      t.regs.ip6Flow = some
        ((s.frameByte (a + 1)).extractLsb' 0 4 ++ s.frameByte (a + 2) ++ s.frameByte (a + 3))

/-- R159, R22: where IPV4 and IPV6 complete, the cursor is the exact sum and stays within the frame, and the 6 bits of
IP4_HLEN hold the header length exactly. -/
def Obligations.CursorArithmeticIsExact : Prop :=
  ∀ (s : State) (n hlen : Nat), n = s.flen - s.pc → hlen = 4 * ((s.frameByte s.pc).extractLsb' 0 4).toNat →
    (20 ≤ n → hlen ≤ n → ∃ t, exec .ipv4 s = .next t ∧ t.pc = s.pc + hlen ∧ t.pc ≤ s.flen ∧
      t.regs.ip4Hlen.map BitVec.toNat = some hlen) ∧
    (40 ≤ n → ∃ t, exec .ipv6 s = .next t ∧ t.pc = s.pc + 40 ∧ t.pc ≤ s.flen)

/-- The frame of the eight layer operations (R25 to R33, R56, R177): every result register outside `Instr.writes`, every
STATUS bit outside `Instr.statusMask`, every byte of the frame, FLEN, and, but for ETH, IPV4 and IPV6, the cursor. -/
def Obligations.LayerOperationsLeaveTheRest : Prop :=
  ∀ (i : Instr) (s t : State), i ≠ .decode → exec i s = .next t →
    (∀ r : Reg, r ∉ i.writes → t.regs.read r = s.regs.read r) ∧
    t.status &&& ~~~i.statusMask = s.status &&& ~~~i.statusMask ∧
    (∀ a : Nat, t.frameByte a = s.frameByte a) ∧ t.flen = s.flen ∧
    (i ≠ .eth → i ≠ .ipv4 → i ≠ .ipv6 → t.pc = s.pc)

/-- R55: an operation depends on no byte of the frame outside its footprint: with another frame that agrees on the
footprint it does the same. -/
def Obligations.OperationsReadOnlyTheirFootprint : Prop :=
  ∀ (i : Instr) (s : State) (m : Memory) (e : Nat) (t : State),
    (∀ a ∈ i.footprint s.pc, a < s.flen →
      ({ s with frame := m, epoch := e } : State).frameByte a = s.frameByte a) →
    exec i s = .next t →
    exec i { s with frame := m, epoch := e } = .next { t with frame := m, epoch := e }

/-! ## DECODE -/

/-- R150 to R155, R34: the STATUS, the frame length and the payload view a DECODE leaves, as functions of the frame
alone: the outcome tables of R153 and R154. -/
def Obligations.DecodeFollowsTheOutcomeTables : Prop :=
  ∀ s : State, ∃ t, exec .decode s = .next t ∧ t.status = s.outcomeStatus ∧ t.regs.frameLen = some s.flen ∧
    (s.flen < 14 → t.regs.payOff = none ∧ t.regs.payLen = none) ∧
    (14 ≤ s.flen → t.regs.payOff = some s.outcomeViewStart ∧
      t.regs.payLen = some (s.flen - s.outcomeViewStart))

/-- R26 to R32, R150: the fields a DECODE leaves, by the kinds in STATUS: each register is the field of the frame its rule
names, at the start of its header. -/
def Obligations.DecodeLeavesTheFieldsOfTheFrame : Prop :=
  ∀ s : State, ∃ t, exec .decode s = .next t ∧
    (14 ≤ s.flen → t.regs.ethDst = some (s.wordAt 48 0) ∧ t.regs.ethSrc = some (s.wordAt 48 6) ∧
      t.regs.ethType = some (s.wordAt 16 12)) ∧
    (t.status.isL3 .v4 = true → t.regs.ipVer = some ((s.frameByte 14).extractLsb' 4 4) ∧
      t.regs.ip4Hlen = some (BitVec.ofNat 6 s.frameHlen) ∧ t.regs.ip4Ttl = some (s.frameByte 22) ∧
      t.regs.ipProto = some (s.frameByte 23) ∧ t.regs.ip4Src = some (s.wordAt 32 26) ∧
      t.regs.ip4Dst = some (s.wordAt 32 30)) ∧
    (t.status.isL3 .v6 = true → t.regs.ipVer = some ((s.wordAt 32 14).extractLsb' 28 4) ∧
      t.regs.ip6Tc = some ((s.wordAt 32 14).extractLsb' 20 8) ∧
      t.regs.ip6Flow = some ((s.wordAt 32 14).extractLsb' 0 20) ∧ t.regs.ip6Plen = some (s.wordAt 16 18) ∧
      t.regs.ipProto = some (s.frameByte 20) ∧ t.regs.ip6Hlim = some (s.frameByte 21) ∧
      t.regs.ip6Src = some (s.wordAt 128 22) ∧ t.regs.ip6Dst = some (s.wordAt 128 38)) ∧
    ∀ l4 : Nat, l4 = (if t.status.isL3 .v4 then 14 + s.frameHlen else 54) →
      (t.status.isL4 .icmp = true → t.regs.icmpType = some (s.frameByte l4) ∧
        t.regs.icmpCode = some (s.frameByte (l4 + 1)) ∧ t.regs.icmpCsum = some (s.wordAt 16 (l4 + 2))) ∧
      (t.status.isL4 .tcp = true → t.regs.tcpSport = some (s.wordAt 16 l4) ∧
        t.regs.tcpDport = some (s.wordAt 16 (l4 + 2)) ∧ t.regs.tcpSeq = some (s.wordAt 32 (l4 + 4)) ∧
        t.regs.tcpAck = some (s.wordAt 32 (l4 + 8)) ∧
        t.regs.tcpHlen = some (BitVec.ofNat 6 (s.frameDataOffset l4)) ∧
        t.regs.tcpFlags = some ((s.frameByte (l4 + 13)).extractLsb' 0 6)) ∧
      (t.status.isL4 .udp = true → t.regs.udpSport = some (s.wordAt 16 l4) ∧
        t.regs.udpDport = some (s.wordAt 16 (l4 + 2)) ∧ t.regs.udpLen = some (s.wordAt 16 (l4 + 4)) ∧
        t.regs.udpCsum = some (s.wordAt 16 (l4 + 6)))

/-- R156, R34: every DECODE ends with DONE, in one of fifteen STATUS values, and the block not busy. -/
def Obligations.DecodeEndsInOneOfFifteenStatuses : Prop :=
  ∀ s : State, ∃ t, exec .decode s = .next t ∧ t.status.done = true ∧ t.status ∈ doneStatuses ∧ t.busy = false

/-- R35: after a DECODE a register holds a value exactly when R35 lists it for the STATUS. -/
def Obligations.RegistersHoldAsStatusSays : Prop :=
  ∀ s : State, ∃ t, exec .decode s = .next t ∧ ∀ r : Reg, (t.regs.read r).isSome = t.status.lists r

/-- R154, R161: the payload view of a frame that is not dropped starts at or after byte 14, ends with the frame, and its
end is the frame's. -/
def Obligations.PayloadViewIsASuffixOfTheFrame : Prop :=
  ∀ s : State, 14 ≤ s.flen → ∃ t off len, exec .decode s = .next t ∧ t.regs.payOff = some off ∧
    t.regs.payLen = some len ∧ 14 ≤ off ∧ off ≤ s.flen ∧ off + len = s.flen ∧
    t.payload = some (s.frameBytes off len)

/-- R152: what a truncated DECODE keeps: after a layer-3 truncation the Ethernet group, label UNKNOWN and the whole
Ethernet payload; after a layer-4 truncation also the IP group decoded, the label that names it and the IP payload. -/
def Obligations.TruncationKeepsCompletedLayersOnly : Prop :=
  ∀ (s t : State) (base : List Reg), base = [.frameLen, .payOff, .payLen, .ethDst, .ethSrc, .ethType] →
    exec .decode s = .next t →
    (t.status.isTrunc .l3 = true → t.status.isLabel .unknown = true ∧ t.regs.payOff = some 14 ∧
      t.regs.payLen = some (s.flen - 14) ∧ ∀ r : Reg, t.regs.read r ≠ none ↔ r ∈ base) ∧
    (t.status.isTrunc .l4 = true → t.regs.payOff = some t.pc ∧
      t.regs.payLen = some (s.flen - t.pc) ∧
      (t.status.isL3 .v4 = true ∧ t.status.isLabel .ipv4 = true ∧
          (∀ r : Reg, t.regs.read r ≠ none ↔ r ∈ base ++ [.ipVer, .ipProto, .ip4Hlen, .ip4Ttl, .ip4Src, .ip4Dst]) ∨
        t.status.isL3 .v6 = true ∧ t.status.isLabel .ipv6 = true ∧
          ∀ r : Reg, t.regs.read r ≠ none ↔
            r ∈ base ++ [.ipVer, .ipProto, .ip6Tc, .ip6Flow, .ip6Plen, .ip6Hlim, .ip6Src, .ip6Dst]))

/-- R151: layer 4 only after IPV4 or IPV6; after L3OTHER no transport kind, no IP or transport register, the label UNKNOWN
and the payload view (14, FLEN - 14). -/
def Obligations.ShortCircuitAfterL3Other : Prop :=
  ∀ s t : State, exec .decode s = .next t →
    (t.status.isL4 .none = false → t.status.isL3 .v4 = true ∨ t.status.isL3 .v6 = true) ∧
    (t.status.isL3 .other = true → t.status.isL4 .none = true ∧ t.status.isLabel .unknown = true ∧
      t.regs.payOff = some 14 ∧ t.regs.payLen = some (s.flen - 14) ∧
      ∀ r : Reg, t.regs.read r ≠ none ↔ r ∈ ([.frameLen, .payOff, .payLen, .ethDst, .ethSrc, .ethType] : List Reg))

/-- The properties 4 to 7 of spec/95_test_vectors.md section 2.8: the kinds in STATUS agree with the selectors, the
length, and each other. -/
def Obligations.KindsAgreeWithSelectors : Prop :=
  ∀ s t : State, exec .decode s = .next t →
    (t.status.isL3 .v4 = true → t.regs.ethType = some 0x0800#16 ∧ 34 ≤ s.flen) ∧
    (t.status.isL3 .v6 = true → t.regs.ethType = some 0x86DD#16 ∧ 54 ≤ s.flen) ∧
    (t.status.isL3 .other = true ↔
      t.status.drop = false ∧ t.regs.ethType ≠ some 0x0800#16 ∧ t.regs.ethType ≠ some 0x86DD#16) ∧
    (t.status.isL4 .icmp = true → t.regs.ipProto = some 1#8) ∧
    (t.status.isL4 .tcp = true → t.regs.ipProto = some 6#8) ∧
    (t.status.isL4 .udp = true → t.regs.ipProto = some 17#8) ∧
    (t.status.isTrunc .l3 = true → t.status.isL3 .none = true) ∧
    (t.status.isTrunc .l4 = true →
      (t.status.isL3 .v4 = true ∨ t.status.isL3 .v6 = true) ∧ t.status.isL4 .none = true) ∧
    (t.status.doffOvr = true → t.status.isL4 .tcp = true ∧ t.regs.payLen = some 0 ∧
      ∃ h, t.regs.tcpHlen = some h ∧ s.flen - t.pc < h.toNat)

/-- R155: a frame of fewer than 14 bytes is dropped: STATUS 0x0003, FRAME_LEN, and nothing else; the host makes no
record. -/
def Obligations.ShortFrameIsDropped : Prop :=
  ∀ s t : State, s.flen < 14 →
    t = { s with
      regs := { Regs.empty with frameLen := some s.flen }
      status := 0x0003#16
      pc := 0
      phase := .idle } →
    exec .decode s = .next t ∧ t.decoded = none

/-- R23, R157, R161: the result of a DECODE depends on FLEN and the frame's bytes below offset 88 and on nothing else,
whatever was decoded before. -/
def Obligations.DecodeDependsOnTheFrameAlone : Prop :=
  ∀ s1 s2 : State, s1.flen = s2.flen →
    (∀ a < 88, a < s1.flen → s1.frameByte a = s2.frameByte a) →
    ∃ t1 t2, exec .decode s1 = .next t1 ∧ exec .decode s2 = .next t2 ∧
      t1.regs = t2.regs ∧ t1.status = t2.status ∧ t1.pc = t2.pc ∧ t1.phase = t2.phase

/-! ## The host -/

/-- R84: a MAC address as text is 17 characters of hexadecimal digits and colons, and no two addresses share one. -/
def Obligations.MacTextIsFaithful : Prop :=
  (∀ m : Mac, (macText m).length = 17 ∧ ∀ c ∈ macText m,
    c ∈ (['0', '1', '2', '3', '4', '5', '6', '7', '8', '9', 'A', 'B', 'C', 'D', 'E', 'F', ':'] : Text)) ∧
  ∀ m1 m2 : Mac, macText m1 = macText m2 → m1 = m2

/-- R85: an IPv4 address as text is its four bytes in order as decimal numbers, separated by points. -/
def Obligations.Ipv4TextIsDottedQuad : Prop :=
  ∀ a : Addr4, ipv4Text a =
    Nat.toDigits 10 (a.toNat / 2 ^ 24) ++ ['.'] ++ Nat.toDigits 10 (a.toNat / 2 ^ 16 % 256) ++ ['.'] ++
      Nat.toDigits 10 (a.toNat / 2 ^ 8 % 256) ++ ['.'] ++ Nat.toDigits 10 (a.toNat % 256)

/-- R87: the label string of each code; PROTO_NUM is the decimal protocol number, without leading zeros. -/
def Obligations.LabelStringsFollowTheTable : Prop :=
  ∀ p : BitVec 8,
    Label.unknown.text (some p) = some "unknown".toList ∧ Label.icmp.text (some p) = some "ICMP".toList ∧
    Label.tcp.text (some p) = some "TCP".toList ∧ Label.udp.text (some p) = some "UDP".toList ∧
    Label.ipv4.text (some p) = some "IPv4".toList ∧ Label.ipv6.text (some p) = some "IPv6".toList ∧
    Label.protoNum.text (some p) = some (Nat.toDigits 10 p.toNat)

/-- R187, R212: a session begins Stopped with an empty buffer and no anchor, and without the capability there is none. -/
def Obligations.SessionBeginsStoppedAndEmpty : Prop :=
  Session.acquire false = .error .captureInitialization ∧
  ∃ h, Session.acquire true = .ok h ∧ h.running = false ∧ h.loop = .exited ∧ h.buffer = [] ∧ h.anchor = none ∧ h.Inv

/-- R188: start and stop are idempotent; a stop leaves the buffer, and a start after it does not reset it. -/
def Obligations.StartAndStopAreIdempotent : Prop :=
  ∀ h : Session,
    (h.running = true → h.start = (h, .alreadyRunning)) ∧ (h.running = false → h.stop = (h, .notRunning)) ∧
    (h.running = false → h.start.2 = .started ∧ h.start.1.running = true ∧ h.start.1.loop ≠ .exited) ∧
    (h.running = true → h.stop.2 = .stopped ∧ h.stop.1.running = false) ∧
    h.start.1.buffer = h.buffer ∧ h.stop.1.buffer = h.buffer

/-- R190, R191: every event of a session keeps its invariant: sequence numbers are the 1-based positions, the first
relative timestamp is 0 and the others the differences from the first record's capture time (exact: log 18). -/
def Obligations.SessionEventsKeepTheInvariant : Prop :=
  ∀ (flenBits : Nat) (h : Session) (e : HostEvent), h.Inv → (h.after flenBits e).Inv

/-- R191, R192: the buffer only grows at its end, by at most one record an event: a snapshot is a prefix of every later one. -/
def Obligations.BufferGrowsOnlyAtItsEnd : Prop :=
  ∀ (flenBits : Nat) (es : List HostEvent) (h : Session), ∃ l, (h.afterAll flenBits es).snapshot = h.snapshot ++ l ∧ l.length ≤ es.length

/-- R155, R189: a frame of fewer than 14 bytes makes no record and takes no number. -/
def Obligations.DroppedFrameMakesNoRecord : Prop :=
  ∀ (flenBits : Nat) (h : Session) (f : RawFrame) (input : Option RawFrame), h.Inv → h.running = true → h.loop = .top →
    f.bytes.length < 14 → f.bytes.length < 2 ^ flenBits →
    ((h.loopMove flenBits (some f)).loopMove flenBits input).buffer = h.buffer ∧
      ((h.loopMove flenBits (some f)).loopMove flenBits input).loop = .top

/-- R158, R189, R190: every other frame the block accepts makes exactly one record, with the next number, the relative
timestamp 0 in an empty buffer and else the difference from the first record's capture time (exact: log 18), its own
length, its MAC addresses as text, its ethertype, and a suffix of its bytes as payload. -/
def Obligations.EveryOtherFrameMakesOneRecord : Prop :=
  ∀ (flenBits : Nat) (h : Session) (f : RawFrame) (input : Option RawFrame), h.Inv → h.running = true → h.loop = .top →
    14 ≤ f.bytes.length → f.bytes.length < 2 ^ flenBits →
    ∃ r k, ((h.loopMove flenBits (some f)).loopMove flenBits input).buffer = h.buffer ++ [r] ∧
      ((h.loopMove flenBits (some f)).loopMove flenBits input).loop = .top ∧
      r.number = h.buffer.length + 1 ∧ r.captured = f.time ∧
      (h.buffer = [] → r.relative = 0) ∧ (∀ r0, h.buffer[0]? = some r0 → r.relative = f.time - r0.captured) ∧
      r.content.length = f.bytes.length ∧ 14 ≤ k ∧ k ≤ f.bytes.length ∧ r.content.payload = f.bytes.drop k ∧
      (∀ m : Mac, bytesBE 6 m.toNat = f.bytes.take 6 → r.content.dstMac = macText m) ∧
      (∀ m : Mac, bytesBE 6 m.toNat = (f.bytes.drop 6).take 6 → r.content.srcMac = macText m) ∧
      ∀ e : BitVec 16, bytesBE 2 e.toNat = (f.bytes.drop 12).take 2 → r.content.ethertype = e

/-- R189, R194: once stopped, a loop at the top exits at its next move and appends nothing; a decode in flight completes
first and its record is appended before the loop is at the top. -/
def Obligations.StoppedLoopHaltsAfterItsDecode : Prop :=
  ∀ (flenBits : Nat) (h : Session) (input : Option RawFrame), h.running = false →
    (h.loop = .top →
      (h.loopMove flenBits input).loop = .exited ∧ (h.loopMove flenBits input).buffer = h.buffer) ∧
    (∀ f, h.loop = .decoding f → h.block.phase = .submitted →
      ∃ b, exec .decode h.block = .next b ∧ (h.loopMove flenBits input).loop = .top ∧
        (h.loopMove flenBits input).block = b ∧
        (b.status.drop = true → (h.loopMove flenBits input).buffer = h.buffer) ∧
        (b.status.drop = false → (h.loopMove flenBits input).buffer.length = h.buffer.length + 1))

/-! ## Every width -/

/-- R6, R159: the model computes offsets on natural numbers; in a block of any width `FLEN_BITS` of at least 8 nothing
wraps: after reset, every submit that is accepted, every operation and every step, each offset, length and register fits
its register. So the results are those of a block of that width. -/
def Obligations.ResultsFitAtEveryWidth : Prop :=
  ∀ flenBits : Nat, 8 ≤ flenBits → State.reset.Fits flenBits ∧
    ∀ s : State, s.Fits flenBits → s.assertReset.Fits flenBits ∧
      (∀ (bytes : List Byte) (flen : Nat) (t : State), s.submit flenBits bytes flen = .next t → t.Fits flenBits) ∧
      (∀ (i : Instr) (t : State), exec i s = .next t → t.Fits flenBits) ∧
      ∀ t : State, step s = .next t → t.Fits flenBits
end

