-- ==== Sys2Proof/Laws/Capture.lean ====
section
/-! SUPPORT. The host's buffer: what an append and a relative timestamp are, said once. -/

namespace Sys2Proof.Machine

/-- The first record's relative timestamp is 0. -/
theorem Session.relativeTo_of_empty {h : Session} (hb : h.buffer = []) (t : Seconds) : h.relativeTo t = 0 := by
  simp [Session.relativeTo, Session.anchor, hb]

/-- A later record's relative timestamp is the difference from the first record's capture time. -/
theorem Session.relativeTo_of_first {h : Session} {r0 : PacketRecord} (hb : h.buffer[0]? = some r0) (t : Seconds) :
    h.relativeTo t = t - r0.captured := by
  cases hl : h.buffer with
  | nil => simp [hl] at hb
  | cons r rs =>
    have e : r = r0 := by simpa [hl] using hb
    simp [Session.relativeTo, Session.anchor, hl, e]

/-- An append changes the buffer only. -/
@[simp] theorem Session.append_block (h : Session) (f : RawFrame) : (h.append f).block = h.block := by
  unfold Session.append; split <;> rfl

@[simp] theorem Session.append_running (h : Session) (f : RawFrame) : (h.append f).running = h.running := by
  unfold Session.append; split <;> rfl

@[simp] theorem Session.append_loop (h : Session) (f : RawFrame) : (h.append f).loop = h.loop := by
  unfold Session.append; split <;> rfl

/-- The buffer after an append: as before, for a result that makes no record, else one record longer. -/
theorem Session.append_buffer (h : Session) (f : RawFrame) :
    (h.block.decoded = none ∧ (h.append f).buffer = h.buffer) ∨
    ∃ d, h.block.decoded = some d ∧ (h.append f).buffer = h.buffer ++
      [{ number := h.buffer.length + 1, relative := h.relativeTo f.time, captured := f.time, content := d }] := by
  unfold Session.append
  cases e : h.block.decoded with
  | none => exact .inl ⟨rfl, rfl⟩
  | some d => exact .inr ⟨d, rfl, rfl⟩

end Sys2Proof.Machine
end

