-- ==== Sys2Proof/Laws/Frame.lean ====
section
/-! SUPPORT. The frame buffer keeps its canonical form; reads inside the frame are defined and give the big-endian
value; each header read, said once. -/

namespace Sys2Proof.Machine

/-! ## The buffer -/

/-- Consecutive cells rise strictly from any address not above the first. -/
theorem Memory.risingFrom_ofBytes (bs : List Byte) : ∀ lo a : Nat, lo ≤ a →
    Memory.risingFrom lo (Memory.ofBytes a bs) = true := by
  induction bs with
  | nil => intro lo a h; rfl
  | cons b bs ih =>
    intro lo a h
    simp [Memory.ofBytes, Memory.risingFrom, h, ih (a + 1) (a + 1) (Nat.le_refl _)]

/-- Loading a frame gives a buffer in canonical form. -/
theorem Memory.wf_ofBytes (bs : List Byte) : (Memory.ofBytes 0 bs).wf = true :=
  Memory.risingFrom_ofBytes bs 0 0 (Nat.le_refl 0)

/-- The state after reset holds a frame buffer in canonical form. -/
theorem State.reset_frame_wf : State.reset.frame.wf = true := rfl

/-- The addresses of a loaded frame lie within its length. -/
theorem Memory.mem_ofBytes (bs : List Byte) : ∀ (a : Nat) (c : Host.Cell), c ∈ Memory.ofBytes a bs →
    a ≤ c.1 ∧ c.1 < a + bs.length := by
  induction bs with
  | nil => intro a c h; simp [Memory.ofBytes] at h
  | cons b bs ih =>
    intro a c h
    simp only [Memory.ofBytes, List.mem_cons] at h
    rcases h with rfl | h
    · simp
    · have := ih (a + 1) c h
      simp only [List.length_cons]
      omega

/-- The byte found at an address of a loaded frame. -/
theorem Memory.find_ofBytes (bs : List Byte) : ∀ (a i : Nat),
    Memory.find (Memory.ofBytes a bs) (a + i) = bs[i]? := by
  induction bs with
  | nil => intro a i; simp [Memory.ofBytes, Memory.find]
  | cons b bs ih =>
    intro a i
    cases i with
    | zero => simp [Memory.ofBytes, Memory.find]
    | succ i =>
      have h := ih (a + 1) i
      have e : a + 1 + i = a + (i + 1) := by omega
      rw [e] at h
      simp [Memory.ofBytes, Memory.find, h]

/-! ## Reads -/

/-- A read inside the frame is defined (R51). -/
theorem State.memRead_eq (s : State) (a k : Nat) (h : a + k ≤ s.flen) :
    s.memRead a k = some (s.bigEndian a k) := by
  simp [State.memRead, h]

/-- A field inside the frame is defined, and is the word there. -/
theorem State.field_eq (s : State) (w a : Nat) (h : a + w / 8 ≤ s.flen) :
    s.field w a = some (s.wordAt w a) := by
  simp [State.field, State.memRead_eq s a (w / 8) h, State.wordAt]

/-- The bytes a big-endian number is read from are all it depends on. -/
theorem State.bigEndian_congr (s t : State) (a k : Nat)
    (h : ∀ i < k, s.frameByte (a + i) = t.frameByte (a + i)) : s.bigEndian a k = t.bigEndian a k := by
  induction k with
  | zero => rfl
  | succ k ih =>
    simp only [State.bigEndian]
    rw [ih fun i hi => h i (by omega), h k (by omega)]

/-- A number of `k` bytes is below `256 ^ k`. -/
theorem State.bigEndian_lt (s : State) (a k : Nat) : s.bigEndian a k < 256 ^ k := by
  induction k with
  | zero => simp [State.bigEndian]
  | succ k ih =>
    have hb : (s.frameByte (a + k)).toNat < 256 := (s.frameByte (a + k)).isLt
    simp only [State.bigEndian, Nat.pow_succ]
    omega

/-- A one-byte word is the byte. -/
@[simp] theorem State.wordAt_8 (s : State) (a : Nat) : s.wordAt 8 a = s.frameByte a := by
  simp [State.wordAt, State.bigEndian]

/-! ## The headers, where they lie inside the frame -/

theorem State.readEth_eq (s : State) (a : Nat) (h : a + 14 ≤ s.flen) :
    s.readEth a = some { dst := s.wordAt 48 a, src := s.wordAt 48 (a + 6), etherType := s.wordAt 16 (a + 12) } := by
  simp [State.readEth, State.field_eq s 48 a (by omega), State.field_eq s 48 (a + 6) (by omega),
    State.field_eq s 16 (a + 12) (by omega)]

theorem State.readIp4_eq (s : State) (a : Nat) (h : a + 20 ≤ s.flen) :
    s.readIp4 a = some
      { ver := (s.frameByte a).extractLsb' 4 4, hlen := ip4HeaderLength (s.frameByte a),
        ttl := s.frameByte (a + 8), proto := s.frameByte (a + 9),
        src := s.wordAt 32 (a + 12), dst := s.wordAt 32 (a + 16) } := by
  simp [State.readIp4, State.field_eq s 8 a (by omega), State.field_eq s 8 (a + 8) (by omega),
    State.field_eq s 8 (a + 9) (by omega), State.field_eq s 32 (a + 12) (by omega),
    State.field_eq s 32 (a + 16) (by omega)]

theorem State.readIp6_eq (s : State) (a : Nat) (h : a + 40 ≤ s.flen) :
    s.readIp6 a = some
      { ver := (s.wordAt 32 a).extractLsb' 28 4, tc := (s.wordAt 32 a).extractLsb' 20 8,
        flow := (s.wordAt 32 a).extractLsb' 0 20, plen := s.wordAt 16 (a + 4),
        proto := s.frameByte (a + 6), hlim := s.frameByte (a + 7),
        src := s.wordAt 128 (a + 8), dst := s.wordAt 128 (a + 24) } := by
  simp [State.readIp6, State.field_eq s 32 a (by omega), State.field_eq s 16 (a + 4) (by omega),
    State.field_eq s 8 (a + 6) (by omega), State.field_eq s 8 (a + 7) (by omega),
    State.field_eq s 128 (a + 8) (by omega), State.field_eq s 128 (a + 24) (by omega)]

theorem State.readIcmp_eq (s : State) (a : Nat) (h : a + 4 ≤ s.flen) :
    s.readIcmp a = some
      { type := s.frameByte a, code := s.frameByte (a + 1), csum := s.wordAt 16 (a + 2) } := by
  simp [State.readIcmp, State.field_eq s 8 a (by omega), State.field_eq s 8 (a + 1) (by omega),
    State.field_eq s 16 (a + 2) (by omega)]

theorem State.readTcp_eq (s : State) (a : Nat) (h : a + 14 ≤ s.flen) :
    s.readTcp a = some
      { sport := s.wordAt 16 a, dport := s.wordAt 16 (a + 2), seq := s.wordAt 32 (a + 4), ack := s.wordAt 32 (a + 8),
        hlen := wordsToBytes ((s.wordAt 16 (a + 12)).extractLsb' 12 4),
        flags := (s.wordAt 16 (a + 12)).extractLsb' 0 6 } := by
  simp [State.readTcp, State.field_eq s 16 a (by omega), State.field_eq s 16 (a + 2) (by omega),
    State.field_eq s 32 (a + 4) (by omega), State.field_eq s 32 (a + 8) (by omega),
    State.field_eq s 16 (a + 12) (by omega)]

theorem State.readUdp_eq (s : State) (a : Nat) (h : a + 8 ≤ s.flen) :
    s.readUdp a = some
      { sport := s.wordAt 16 a, dport := s.wordAt 16 (a + 2), len := s.wordAt 16 (a + 4),
        csum := s.wordAt 16 (a + 6) } := by
  simp [State.readUdp, State.field_eq s 16 a (by omega), State.field_eq s 16 (a + 2) (by omega),
    State.field_eq s 16 (a + 4) (by omega), State.field_eq s 16 (a + 6) (by omega)]

/-- A length in bytes is four times the length in words, at most 60 (R159). -/
theorem wordsToBytes_toNat (v : BitVec 4) : (wordsToBytes v).toNat = 4 * v.toNat := by
  have h : v.toNat < 16 := v.isLt
  simp [wordsToBytes]
  omega

/-- What is left of the frame ends at its end, where anything is left. -/
theorem State.pc_add_remaining (s : State) (h : 0 < s.remaining) : s.pc + s.remaining = s.flen := by
  unfold State.remaining at *
  omega

end Sys2Proof.Machine
end

