-- ==== Sys2Proof/Laws/State.lean ====
section
/-! SUPPORT. One lemma per field per update of State, so that no proof unfolds a record update; and what a read of a
result register gives after each group of register writes. -/

namespace Sys2Proof.Machine

@[simp] theorem State.setPc_frame (s : State) (v : Nat) : (s.setPc v).frame = s.frame := rfl
@[simp] theorem State.setPc_flen (s : State) (v : Nat) : (s.setPc v).flen = s.flen := rfl
@[simp] theorem State.setPc_pc (s : State) (v : Nat) : (s.setPc v).pc = v := rfl
@[simp] theorem State.setPc_regs (s : State) (v : Nat) : (s.setPc v).regs = s.regs := rfl
@[simp] theorem State.setPc_status (s : State) (v : Nat) : (s.setPc v).status = s.status := rfl
@[simp] theorem State.setPc_phase (s : State) (v : Nat) : (s.setPc v).phase = s.phase := rfl
@[simp] theorem State.setPc_epoch (s : State) (v : Nat) : (s.setPc v).epoch = s.epoch := rfl

@[simp] theorem State.setStatus_frame (s : State) (st : Status) : (s.setStatus st).frame = s.frame := rfl
@[simp] theorem State.setStatus_flen (s : State) (st : Status) : (s.setStatus st).flen = s.flen := rfl
@[simp] theorem State.setStatus_pc (s : State) (st : Status) : (s.setStatus st).pc = s.pc := rfl
@[simp] theorem State.setStatus_regs (s : State) (st : Status) : (s.setStatus st).regs = s.regs := rfl
@[simp] theorem State.setStatus_status (s : State) (st : Status) : (s.setStatus st).status = st := rfl
@[simp] theorem State.setStatus_phase (s : State) (st : Status) : (s.setStatus st).phase = s.phase := rfl
@[simp] theorem State.setStatus_epoch (s : State) (st : Status) : (s.setStatus st).epoch = s.epoch := rfl

@[simp] theorem State.setRegs_frame (s : State) (r : Regs) : (s.setRegs r).frame = s.frame := rfl
@[simp] theorem State.setRegs_flen (s : State) (r : Regs) : (s.setRegs r).flen = s.flen := rfl
@[simp] theorem State.setRegs_pc (s : State) (r : Regs) : (s.setRegs r).pc = s.pc := rfl
@[simp] theorem State.setRegs_regs (s : State) (r : Regs) : (s.setRegs r).regs = r := rfl
@[simp] theorem State.setRegs_status (s : State) (r : Regs) : (s.setRegs r).status = s.status := rfl
@[simp] theorem State.setRegs_phase (s : State) (r : Regs) : (s.setRegs r).phase = s.phase := rfl
@[simp] theorem State.setRegs_epoch (s : State) (r : Regs) : (s.setRegs r).epoch = s.epoch := rfl

@[simp] theorem State.goto_frame (s : State) (p : Phase) : (s.goto p).frame = s.frame := rfl
@[simp] theorem State.goto_flen (s : State) (p : Phase) : (s.goto p).flen = s.flen := rfl
@[simp] theorem State.goto_pc (s : State) (p : Phase) : (s.goto p).pc = s.pc := rfl
@[simp] theorem State.goto_regs (s : State) (p : Phase) : (s.goto p).regs = s.regs := rfl
@[simp] theorem State.goto_status (s : State) (p : Phase) : (s.goto p).status = s.status := rfl
@[simp] theorem State.goto_phase (s : State) (p : Phase) : (s.goto p).phase = p := rfl
@[simp] theorem State.goto_epoch (s : State) (p : Phase) : (s.goto p).epoch = s.epoch := rfl

@[simp] theorem State.setView_frame (s : State) (off len : Nat) : (s.setView off len).frame = s.frame := rfl
@[simp] theorem State.setView_flen (s : State) (off len : Nat) : (s.setView off len).flen = s.flen := rfl
@[simp] theorem State.setView_pc (s : State) (off len : Nat) : (s.setView off len).pc = s.pc := rfl
@[simp] theorem State.setView_regs (s : State) (off len : Nat) : (s.setView off len).regs = s.regs.putView off len := rfl
@[simp] theorem State.setView_status (s : State) (off len : Nat) : (s.setView off len).status = s.status := rfl
@[simp] theorem State.setView_phase (s : State) (off len : Nat) : (s.setView off len).phase = s.phase := rfl
@[simp] theorem State.setView_epoch (s : State) (off len : Nat) : (s.setView off len).epoch = s.epoch := rfl

@[simp] theorem State.endByException_frame (s : State) (st : Status) : (s.endByException st).frame = s.frame := rfl
@[simp] theorem State.endByException_flen (s : State) (st : Status) : (s.endByException st).flen = s.flen := rfl
@[simp] theorem State.endByException_pc (s : State) (st : Status) : (s.endByException st).pc = s.pc := rfl
@[simp] theorem State.endByException_regs (s : State) (st : Status) : (s.endByException st).regs = s.regs := rfl
@[simp] theorem State.endByException_status (s : State) (st : Status) : (s.endByException st).status = st.setDone := rfl
@[simp] theorem State.endByException_phase (s : State) (st : Status) : (s.endByException st).phase = .idle := rfl
@[simp] theorem State.endByException_epoch (s : State) (st : Status) : (s.endByException st).epoch = s.epoch := rfl

@[simp] theorem State.finishDecode_frame (s : State) : s.finishDecode.frame = s.frame := rfl
@[simp] theorem State.finishDecode_flen (s : State) : s.finishDecode.flen = s.flen := rfl
@[simp] theorem State.finishDecode_pc (s : State) : s.finishDecode.pc = s.pc := rfl
@[simp] theorem State.finishDecode_regs (s : State) : s.finishDecode.regs = s.regs := rfl
@[simp] theorem State.finishDecode_status (s : State) : s.finishDecode.status = s.status.setDone := rfl
@[simp] theorem State.finishDecode_phase (s : State) : s.finishDecode.phase = .idle := rfl
@[simp] theorem State.finishDecode_epoch (s : State) : s.finishDecode.epoch = s.epoch := rfl

@[simp] theorem State.clearResult_frame (s : State) : s.clearResult.frame = s.frame := rfl
@[simp] theorem State.clearResult_flen (s : State) : s.clearResult.flen = s.flen := rfl
@[simp] theorem State.clearResult_pc (s : State) : s.clearResult.pc = s.pc := rfl
@[simp] theorem State.clearResult_regs (s : State) : s.clearResult.regs = Regs.empty := rfl
@[simp] theorem State.clearResult_status (s : State) : s.clearResult.status = 0x0000#16 := rfl
@[simp] theorem State.clearResult_phase (s : State) : s.clearResult.phase = s.phase := rfl
@[simp] theorem State.clearResult_epoch (s : State) : s.clearResult.epoch = s.epoch := rfl

@[simp] theorem State.beginDecode_frame (s : State) : s.beginDecode.frame = s.frame := rfl
@[simp] theorem State.beginDecode_flen (s : State) : s.beginDecode.flen = s.flen := rfl
@[simp] theorem State.beginDecode_pc (s : State) : s.beginDecode.pc = 0 := rfl
@[simp] theorem State.beginDecode_regs (s : State) : s.beginDecode.regs = { Regs.empty with frameLen := some s.flen } := rfl
@[simp] theorem State.beginDecode_status (s : State) : s.beginDecode.status = 0x0000#16 := rfl
@[simp] theorem State.beginDecode_phase (s : State) : s.beginDecode.phase = .layer2 := rfl
@[simp] theorem State.beginDecode_epoch (s : State) : s.beginDecode.epoch = s.epoch := rfl

@[simp] theorem State.assertReset_frame (s : State) : s.assertReset.frame = s.frame := rfl
@[simp] theorem State.assertReset_flen (s : State) : s.assertReset.flen = s.flen := rfl
@[simp] theorem State.assertReset_pc (s : State) : s.assertReset.pc = 0 := rfl
@[simp] theorem State.assertReset_regs (s : State) : s.assertReset.regs = Regs.empty := rfl
@[simp] theorem State.assertReset_status (s : State) : s.assertReset.status = 0x0000#16 := rfl
@[simp] theorem State.assertReset_phase (s : State) : s.assertReset.phase = .idle := rfl
@[simp] theorem State.assertReset_epoch (s : State) : s.assertReset.epoch = s.epoch := rfl

/-! ## The group writes, register by register -/

@[simp] theorem Regs.putEth_frameLen (r : Regs) (h : EthHeader) : (r.putEth h).frameLen = r.frameLen := rfl
@[simp] theorem Regs.putEth_payOff (r : Regs) (h : EthHeader) : (r.putEth h).payOff = r.payOff := rfl
@[simp] theorem Regs.putEth_payLen (r : Regs) (h : EthHeader) : (r.putEth h).payLen = r.payLen := rfl
@[simp] theorem Regs.putEth_ethDst (r : Regs) (h : EthHeader) : (r.putEth h).ethDst = some h.dst := rfl
@[simp] theorem Regs.putEth_ethSrc (r : Regs) (h : EthHeader) : (r.putEth h).ethSrc = some h.src := rfl
@[simp] theorem Regs.putEth_ethType (r : Regs) (h : EthHeader) : (r.putEth h).ethType = some h.etherType := rfl
@[simp] theorem Regs.putEth_ipVer (r : Regs) (h : EthHeader) : (r.putEth h).ipVer = r.ipVer := rfl
@[simp] theorem Regs.putEth_ipProto (r : Regs) (h : EthHeader) : (r.putEth h).ipProto = r.ipProto := rfl
@[simp] theorem Regs.putEth_ip4Hlen (r : Regs) (h : EthHeader) : (r.putEth h).ip4Hlen = r.ip4Hlen := rfl
@[simp] theorem Regs.putEth_ip4Ttl (r : Regs) (h : EthHeader) : (r.putEth h).ip4Ttl = r.ip4Ttl := rfl
@[simp] theorem Regs.putEth_ip4Src (r : Regs) (h : EthHeader) : (r.putEth h).ip4Src = r.ip4Src := rfl
@[simp] theorem Regs.putEth_ip4Dst (r : Regs) (h : EthHeader) : (r.putEth h).ip4Dst = r.ip4Dst := rfl
@[simp] theorem Regs.putEth_ip6Tc (r : Regs) (h : EthHeader) : (r.putEth h).ip6Tc = r.ip6Tc := rfl
@[simp] theorem Regs.putEth_ip6Flow (r : Regs) (h : EthHeader) : (r.putEth h).ip6Flow = r.ip6Flow := rfl
@[simp] theorem Regs.putEth_ip6Plen (r : Regs) (h : EthHeader) : (r.putEth h).ip6Plen = r.ip6Plen := rfl
@[simp] theorem Regs.putEth_ip6Hlim (r : Regs) (h : EthHeader) : (r.putEth h).ip6Hlim = r.ip6Hlim := rfl
@[simp] theorem Regs.putEth_ip6Src (r : Regs) (h : EthHeader) : (r.putEth h).ip6Src = r.ip6Src := rfl
@[simp] theorem Regs.putEth_ip6Dst (r : Regs) (h : EthHeader) : (r.putEth h).ip6Dst = r.ip6Dst := rfl
@[simp] theorem Regs.putEth_icmpType (r : Regs) (h : EthHeader) : (r.putEth h).icmpType = r.icmpType := rfl
@[simp] theorem Regs.putEth_icmpCode (r : Regs) (h : EthHeader) : (r.putEth h).icmpCode = r.icmpCode := rfl
@[simp] theorem Regs.putEth_icmpCsum (r : Regs) (h : EthHeader) : (r.putEth h).icmpCsum = r.icmpCsum := rfl
@[simp] theorem Regs.putEth_tcpSport (r : Regs) (h : EthHeader) : (r.putEth h).tcpSport = r.tcpSport := rfl
@[simp] theorem Regs.putEth_tcpDport (r : Regs) (h : EthHeader) : (r.putEth h).tcpDport = r.tcpDport := rfl
@[simp] theorem Regs.putEth_tcpSeq (r : Regs) (h : EthHeader) : (r.putEth h).tcpSeq = r.tcpSeq := rfl
@[simp] theorem Regs.putEth_tcpAck (r : Regs) (h : EthHeader) : (r.putEth h).tcpAck = r.tcpAck := rfl
@[simp] theorem Regs.putEth_tcpHlen (r : Regs) (h : EthHeader) : (r.putEth h).tcpHlen = r.tcpHlen := rfl
@[simp] theorem Regs.putEth_tcpFlags (r : Regs) (h : EthHeader) : (r.putEth h).tcpFlags = r.tcpFlags := rfl
@[simp] theorem Regs.putEth_udpSport (r : Regs) (h : EthHeader) : (r.putEth h).udpSport = r.udpSport := rfl
@[simp] theorem Regs.putEth_udpDport (r : Regs) (h : EthHeader) : (r.putEth h).udpDport = r.udpDport := rfl
@[simp] theorem Regs.putEth_udpLen (r : Regs) (h : EthHeader) : (r.putEth h).udpLen = r.udpLen := rfl
@[simp] theorem Regs.putEth_udpCsum (r : Regs) (h : EthHeader) : (r.putEth h).udpCsum = r.udpCsum := rfl

@[simp] theorem Regs.putIp4_frameLen (r : Regs) (h : Ip4Header) : (r.putIp4 h).frameLen = r.frameLen := rfl
@[simp] theorem Regs.putIp4_payOff (r : Regs) (h : Ip4Header) : (r.putIp4 h).payOff = r.payOff := rfl
@[simp] theorem Regs.putIp4_payLen (r : Regs) (h : Ip4Header) : (r.putIp4 h).payLen = r.payLen := rfl
@[simp] theorem Regs.putIp4_ethDst (r : Regs) (h : Ip4Header) : (r.putIp4 h).ethDst = r.ethDst := rfl
@[simp] theorem Regs.putIp4_ethSrc (r : Regs) (h : Ip4Header) : (r.putIp4 h).ethSrc = r.ethSrc := rfl
@[simp] theorem Regs.putIp4_ethType (r : Regs) (h : Ip4Header) : (r.putIp4 h).ethType = r.ethType := rfl
@[simp] theorem Regs.putIp4_ipVer (r : Regs) (h : Ip4Header) : (r.putIp4 h).ipVer = some h.ver := rfl
@[simp] theorem Regs.putIp4_ipProto (r : Regs) (h : Ip4Header) : (r.putIp4 h).ipProto = some h.proto := rfl
@[simp] theorem Regs.putIp4_ip4Hlen (r : Regs) (h : Ip4Header) : (r.putIp4 h).ip4Hlen = some h.hlen := rfl
@[simp] theorem Regs.putIp4_ip4Ttl (r : Regs) (h : Ip4Header) : (r.putIp4 h).ip4Ttl = some h.ttl := rfl
@[simp] theorem Regs.putIp4_ip4Src (r : Regs) (h : Ip4Header) : (r.putIp4 h).ip4Src = some h.src := rfl
@[simp] theorem Regs.putIp4_ip4Dst (r : Regs) (h : Ip4Header) : (r.putIp4 h).ip4Dst = some h.dst := rfl
@[simp] theorem Regs.putIp4_ip6Tc (r : Regs) (h : Ip4Header) : (r.putIp4 h).ip6Tc = r.ip6Tc := rfl
@[simp] theorem Regs.putIp4_ip6Flow (r : Regs) (h : Ip4Header) : (r.putIp4 h).ip6Flow = r.ip6Flow := rfl
@[simp] theorem Regs.putIp4_ip6Plen (r : Regs) (h : Ip4Header) : (r.putIp4 h).ip6Plen = r.ip6Plen := rfl
@[simp] theorem Regs.putIp4_ip6Hlim (r : Regs) (h : Ip4Header) : (r.putIp4 h).ip6Hlim = r.ip6Hlim := rfl
@[simp] theorem Regs.putIp4_ip6Src (r : Regs) (h : Ip4Header) : (r.putIp4 h).ip6Src = r.ip6Src := rfl
@[simp] theorem Regs.putIp4_ip6Dst (r : Regs) (h : Ip4Header) : (r.putIp4 h).ip6Dst = r.ip6Dst := rfl
@[simp] theorem Regs.putIp4_icmpType (r : Regs) (h : Ip4Header) : (r.putIp4 h).icmpType = r.icmpType := rfl
@[simp] theorem Regs.putIp4_icmpCode (r : Regs) (h : Ip4Header) : (r.putIp4 h).icmpCode = r.icmpCode := rfl
@[simp] theorem Regs.putIp4_icmpCsum (r : Regs) (h : Ip4Header) : (r.putIp4 h).icmpCsum = r.icmpCsum := rfl
@[simp] theorem Regs.putIp4_tcpSport (r : Regs) (h : Ip4Header) : (r.putIp4 h).tcpSport = r.tcpSport := rfl
@[simp] theorem Regs.putIp4_tcpDport (r : Regs) (h : Ip4Header) : (r.putIp4 h).tcpDport = r.tcpDport := rfl
@[simp] theorem Regs.putIp4_tcpSeq (r : Regs) (h : Ip4Header) : (r.putIp4 h).tcpSeq = r.tcpSeq := rfl
@[simp] theorem Regs.putIp4_tcpAck (r : Regs) (h : Ip4Header) : (r.putIp4 h).tcpAck = r.tcpAck := rfl
@[simp] theorem Regs.putIp4_tcpHlen (r : Regs) (h : Ip4Header) : (r.putIp4 h).tcpHlen = r.tcpHlen := rfl
@[simp] theorem Regs.putIp4_tcpFlags (r : Regs) (h : Ip4Header) : (r.putIp4 h).tcpFlags = r.tcpFlags := rfl
@[simp] theorem Regs.putIp4_udpSport (r : Regs) (h : Ip4Header) : (r.putIp4 h).udpSport = r.udpSport := rfl
@[simp] theorem Regs.putIp4_udpDport (r : Regs) (h : Ip4Header) : (r.putIp4 h).udpDport = r.udpDport := rfl
@[simp] theorem Regs.putIp4_udpLen (r : Regs) (h : Ip4Header) : (r.putIp4 h).udpLen = r.udpLen := rfl
@[simp] theorem Regs.putIp4_udpCsum (r : Regs) (h : Ip4Header) : (r.putIp4 h).udpCsum = r.udpCsum := rfl

@[simp] theorem Regs.putIp6_frameLen (r : Regs) (h : Ip6Header) : (r.putIp6 h).frameLen = r.frameLen := rfl
@[simp] theorem Regs.putIp6_payOff (r : Regs) (h : Ip6Header) : (r.putIp6 h).payOff = r.payOff := rfl
@[simp] theorem Regs.putIp6_payLen (r : Regs) (h : Ip6Header) : (r.putIp6 h).payLen = r.payLen := rfl
@[simp] theorem Regs.putIp6_ethDst (r : Regs) (h : Ip6Header) : (r.putIp6 h).ethDst = r.ethDst := rfl
@[simp] theorem Regs.putIp6_ethSrc (r : Regs) (h : Ip6Header) : (r.putIp6 h).ethSrc = r.ethSrc := rfl
@[simp] theorem Regs.putIp6_ethType (r : Regs) (h : Ip6Header) : (r.putIp6 h).ethType = r.ethType := rfl
@[simp] theorem Regs.putIp6_ipVer (r : Regs) (h : Ip6Header) : (r.putIp6 h).ipVer = some h.ver := rfl
@[simp] theorem Regs.putIp6_ipProto (r : Regs) (h : Ip6Header) : (r.putIp6 h).ipProto = some h.proto := rfl
@[simp] theorem Regs.putIp6_ip4Hlen (r : Regs) (h : Ip6Header) : (r.putIp6 h).ip4Hlen = r.ip4Hlen := rfl
@[simp] theorem Regs.putIp6_ip4Ttl (r : Regs) (h : Ip6Header) : (r.putIp6 h).ip4Ttl = r.ip4Ttl := rfl
@[simp] theorem Regs.putIp6_ip4Src (r : Regs) (h : Ip6Header) : (r.putIp6 h).ip4Src = r.ip4Src := rfl
@[simp] theorem Regs.putIp6_ip4Dst (r : Regs) (h : Ip6Header) : (r.putIp6 h).ip4Dst = r.ip4Dst := rfl
@[simp] theorem Regs.putIp6_ip6Tc (r : Regs) (h : Ip6Header) : (r.putIp6 h).ip6Tc = some h.tc := rfl
@[simp] theorem Regs.putIp6_ip6Flow (r : Regs) (h : Ip6Header) : (r.putIp6 h).ip6Flow = some h.flow := rfl
@[simp] theorem Regs.putIp6_ip6Plen (r : Regs) (h : Ip6Header) : (r.putIp6 h).ip6Plen = some h.plen := rfl
@[simp] theorem Regs.putIp6_ip6Hlim (r : Regs) (h : Ip6Header) : (r.putIp6 h).ip6Hlim = some h.hlim := rfl
@[simp] theorem Regs.putIp6_ip6Src (r : Regs) (h : Ip6Header) : (r.putIp6 h).ip6Src = some h.src := rfl
@[simp] theorem Regs.putIp6_ip6Dst (r : Regs) (h : Ip6Header) : (r.putIp6 h).ip6Dst = some h.dst := rfl
@[simp] theorem Regs.putIp6_icmpType (r : Regs) (h : Ip6Header) : (r.putIp6 h).icmpType = r.icmpType := rfl
@[simp] theorem Regs.putIp6_icmpCode (r : Regs) (h : Ip6Header) : (r.putIp6 h).icmpCode = r.icmpCode := rfl
@[simp] theorem Regs.putIp6_icmpCsum (r : Regs) (h : Ip6Header) : (r.putIp6 h).icmpCsum = r.icmpCsum := rfl
@[simp] theorem Regs.putIp6_tcpSport (r : Regs) (h : Ip6Header) : (r.putIp6 h).tcpSport = r.tcpSport := rfl
@[simp] theorem Regs.putIp6_tcpDport (r : Regs) (h : Ip6Header) : (r.putIp6 h).tcpDport = r.tcpDport := rfl
@[simp] theorem Regs.putIp6_tcpSeq (r : Regs) (h : Ip6Header) : (r.putIp6 h).tcpSeq = r.tcpSeq := rfl
@[simp] theorem Regs.putIp6_tcpAck (r : Regs) (h : Ip6Header) : (r.putIp6 h).tcpAck = r.tcpAck := rfl
@[simp] theorem Regs.putIp6_tcpHlen (r : Regs) (h : Ip6Header) : (r.putIp6 h).tcpHlen = r.tcpHlen := rfl
@[simp] theorem Regs.putIp6_tcpFlags (r : Regs) (h : Ip6Header) : (r.putIp6 h).tcpFlags = r.tcpFlags := rfl
@[simp] theorem Regs.putIp6_udpSport (r : Regs) (h : Ip6Header) : (r.putIp6 h).udpSport = r.udpSport := rfl
@[simp] theorem Regs.putIp6_udpDport (r : Regs) (h : Ip6Header) : (r.putIp6 h).udpDport = r.udpDport := rfl
@[simp] theorem Regs.putIp6_udpLen (r : Regs) (h : Ip6Header) : (r.putIp6 h).udpLen = r.udpLen := rfl
@[simp] theorem Regs.putIp6_udpCsum (r : Regs) (h : Ip6Header) : (r.putIp6 h).udpCsum = r.udpCsum := rfl

@[simp] theorem Regs.putIcmp_frameLen (r : Regs) (h : IcmpHeader) : (r.putIcmp h).frameLen = r.frameLen := rfl
@[simp] theorem Regs.putIcmp_payOff (r : Regs) (h : IcmpHeader) : (r.putIcmp h).payOff = r.payOff := rfl
@[simp] theorem Regs.putIcmp_payLen (r : Regs) (h : IcmpHeader) : (r.putIcmp h).payLen = r.payLen := rfl
@[simp] theorem Regs.putIcmp_ethDst (r : Regs) (h : IcmpHeader) : (r.putIcmp h).ethDst = r.ethDst := rfl
@[simp] theorem Regs.putIcmp_ethSrc (r : Regs) (h : IcmpHeader) : (r.putIcmp h).ethSrc = r.ethSrc := rfl
@[simp] theorem Regs.putIcmp_ethType (r : Regs) (h : IcmpHeader) : (r.putIcmp h).ethType = r.ethType := rfl
@[simp] theorem Regs.putIcmp_ipVer (r : Regs) (h : IcmpHeader) : (r.putIcmp h).ipVer = r.ipVer := rfl
@[simp] theorem Regs.putIcmp_ipProto (r : Regs) (h : IcmpHeader) : (r.putIcmp h).ipProto = r.ipProto := rfl
@[simp] theorem Regs.putIcmp_ip4Hlen (r : Regs) (h : IcmpHeader) : (r.putIcmp h).ip4Hlen = r.ip4Hlen := rfl
@[simp] theorem Regs.putIcmp_ip4Ttl (r : Regs) (h : IcmpHeader) : (r.putIcmp h).ip4Ttl = r.ip4Ttl := rfl
@[simp] theorem Regs.putIcmp_ip4Src (r : Regs) (h : IcmpHeader) : (r.putIcmp h).ip4Src = r.ip4Src := rfl
@[simp] theorem Regs.putIcmp_ip4Dst (r : Regs) (h : IcmpHeader) : (r.putIcmp h).ip4Dst = r.ip4Dst := rfl
@[simp] theorem Regs.putIcmp_ip6Tc (r : Regs) (h : IcmpHeader) : (r.putIcmp h).ip6Tc = r.ip6Tc := rfl
@[simp] theorem Regs.putIcmp_ip6Flow (r : Regs) (h : IcmpHeader) : (r.putIcmp h).ip6Flow = r.ip6Flow := rfl
@[simp] theorem Regs.putIcmp_ip6Plen (r : Regs) (h : IcmpHeader) : (r.putIcmp h).ip6Plen = r.ip6Plen := rfl
@[simp] theorem Regs.putIcmp_ip6Hlim (r : Regs) (h : IcmpHeader) : (r.putIcmp h).ip6Hlim = r.ip6Hlim := rfl
@[simp] theorem Regs.putIcmp_ip6Src (r : Regs) (h : IcmpHeader) : (r.putIcmp h).ip6Src = r.ip6Src := rfl
@[simp] theorem Regs.putIcmp_ip6Dst (r : Regs) (h : IcmpHeader) : (r.putIcmp h).ip6Dst = r.ip6Dst := rfl
@[simp] theorem Regs.putIcmp_icmpType (r : Regs) (h : IcmpHeader) : (r.putIcmp h).icmpType = some h.type := rfl
@[simp] theorem Regs.putIcmp_icmpCode (r : Regs) (h : IcmpHeader) : (r.putIcmp h).icmpCode = some h.code := rfl
@[simp] theorem Regs.putIcmp_icmpCsum (r : Regs) (h : IcmpHeader) : (r.putIcmp h).icmpCsum = some h.csum := rfl
@[simp] theorem Regs.putIcmp_tcpSport (r : Regs) (h : IcmpHeader) : (r.putIcmp h).tcpSport = r.tcpSport := rfl
@[simp] theorem Regs.putIcmp_tcpDport (r : Regs) (h : IcmpHeader) : (r.putIcmp h).tcpDport = r.tcpDport := rfl
@[simp] theorem Regs.putIcmp_tcpSeq (r : Regs) (h : IcmpHeader) : (r.putIcmp h).tcpSeq = r.tcpSeq := rfl
@[simp] theorem Regs.putIcmp_tcpAck (r : Regs) (h : IcmpHeader) : (r.putIcmp h).tcpAck = r.tcpAck := rfl
@[simp] theorem Regs.putIcmp_tcpHlen (r : Regs) (h : IcmpHeader) : (r.putIcmp h).tcpHlen = r.tcpHlen := rfl
@[simp] theorem Regs.putIcmp_tcpFlags (r : Regs) (h : IcmpHeader) : (r.putIcmp h).tcpFlags = r.tcpFlags := rfl
@[simp] theorem Regs.putIcmp_udpSport (r : Regs) (h : IcmpHeader) : (r.putIcmp h).udpSport = r.udpSport := rfl
@[simp] theorem Regs.putIcmp_udpDport (r : Regs) (h : IcmpHeader) : (r.putIcmp h).udpDport = r.udpDport := rfl
@[simp] theorem Regs.putIcmp_udpLen (r : Regs) (h : IcmpHeader) : (r.putIcmp h).udpLen = r.udpLen := rfl
@[simp] theorem Regs.putIcmp_udpCsum (r : Regs) (h : IcmpHeader) : (r.putIcmp h).udpCsum = r.udpCsum := rfl

@[simp] theorem Regs.putTcp_frameLen (r : Regs) (h : TcpHeader) : (r.putTcp h).frameLen = r.frameLen := rfl
@[simp] theorem Regs.putTcp_payOff (r : Regs) (h : TcpHeader) : (r.putTcp h).payOff = r.payOff := rfl
@[simp] theorem Regs.putTcp_payLen (r : Regs) (h : TcpHeader) : (r.putTcp h).payLen = r.payLen := rfl
@[simp] theorem Regs.putTcp_ethDst (r : Regs) (h : TcpHeader) : (r.putTcp h).ethDst = r.ethDst := rfl
@[simp] theorem Regs.putTcp_ethSrc (r : Regs) (h : TcpHeader) : (r.putTcp h).ethSrc = r.ethSrc := rfl
@[simp] theorem Regs.putTcp_ethType (r : Regs) (h : TcpHeader) : (r.putTcp h).ethType = r.ethType := rfl
@[simp] theorem Regs.putTcp_ipVer (r : Regs) (h : TcpHeader) : (r.putTcp h).ipVer = r.ipVer := rfl
@[simp] theorem Regs.putTcp_ipProto (r : Regs) (h : TcpHeader) : (r.putTcp h).ipProto = r.ipProto := rfl
@[simp] theorem Regs.putTcp_ip4Hlen (r : Regs) (h : TcpHeader) : (r.putTcp h).ip4Hlen = r.ip4Hlen := rfl
@[simp] theorem Regs.putTcp_ip4Ttl (r : Regs) (h : TcpHeader) : (r.putTcp h).ip4Ttl = r.ip4Ttl := rfl
@[simp] theorem Regs.putTcp_ip4Src (r : Regs) (h : TcpHeader) : (r.putTcp h).ip4Src = r.ip4Src := rfl
@[simp] theorem Regs.putTcp_ip4Dst (r : Regs) (h : TcpHeader) : (r.putTcp h).ip4Dst = r.ip4Dst := rfl
@[simp] theorem Regs.putTcp_ip6Tc (r : Regs) (h : TcpHeader) : (r.putTcp h).ip6Tc = r.ip6Tc := rfl
@[simp] theorem Regs.putTcp_ip6Flow (r : Regs) (h : TcpHeader) : (r.putTcp h).ip6Flow = r.ip6Flow := rfl
@[simp] theorem Regs.putTcp_ip6Plen (r : Regs) (h : TcpHeader) : (r.putTcp h).ip6Plen = r.ip6Plen := rfl
@[simp] theorem Regs.putTcp_ip6Hlim (r : Regs) (h : TcpHeader) : (r.putTcp h).ip6Hlim = r.ip6Hlim := rfl
@[simp] theorem Regs.putTcp_ip6Src (r : Regs) (h : TcpHeader) : (r.putTcp h).ip6Src = r.ip6Src := rfl
@[simp] theorem Regs.putTcp_ip6Dst (r : Regs) (h : TcpHeader) : (r.putTcp h).ip6Dst = r.ip6Dst := rfl
@[simp] theorem Regs.putTcp_icmpType (r : Regs) (h : TcpHeader) : (r.putTcp h).icmpType = r.icmpType := rfl
@[simp] theorem Regs.putTcp_icmpCode (r : Regs) (h : TcpHeader) : (r.putTcp h).icmpCode = r.icmpCode := rfl
@[simp] theorem Regs.putTcp_icmpCsum (r : Regs) (h : TcpHeader) : (r.putTcp h).icmpCsum = r.icmpCsum := rfl
@[simp] theorem Regs.putTcp_tcpSport (r : Regs) (h : TcpHeader) : (r.putTcp h).tcpSport = some h.sport := rfl
@[simp] theorem Regs.putTcp_tcpDport (r : Regs) (h : TcpHeader) : (r.putTcp h).tcpDport = some h.dport := rfl
@[simp] theorem Regs.putTcp_tcpSeq (r : Regs) (h : TcpHeader) : (r.putTcp h).tcpSeq = some h.seq := rfl
@[simp] theorem Regs.putTcp_tcpAck (r : Regs) (h : TcpHeader) : (r.putTcp h).tcpAck = some h.ack := rfl
@[simp] theorem Regs.putTcp_tcpHlen (r : Regs) (h : TcpHeader) : (r.putTcp h).tcpHlen = some h.hlen := rfl
@[simp] theorem Regs.putTcp_tcpFlags (r : Regs) (h : TcpHeader) : (r.putTcp h).tcpFlags = some h.flags := rfl
@[simp] theorem Regs.putTcp_udpSport (r : Regs) (h : TcpHeader) : (r.putTcp h).udpSport = r.udpSport := rfl
@[simp] theorem Regs.putTcp_udpDport (r : Regs) (h : TcpHeader) : (r.putTcp h).udpDport = r.udpDport := rfl
@[simp] theorem Regs.putTcp_udpLen (r : Regs) (h : TcpHeader) : (r.putTcp h).udpLen = r.udpLen := rfl
@[simp] theorem Regs.putTcp_udpCsum (r : Regs) (h : TcpHeader) : (r.putTcp h).udpCsum = r.udpCsum := rfl

@[simp] theorem Regs.putUdp_frameLen (r : Regs) (h : UdpHeader) : (r.putUdp h).frameLen = r.frameLen := rfl
@[simp] theorem Regs.putUdp_payOff (r : Regs) (h : UdpHeader) : (r.putUdp h).payOff = r.payOff := rfl
@[simp] theorem Regs.putUdp_payLen (r : Regs) (h : UdpHeader) : (r.putUdp h).payLen = r.payLen := rfl
@[simp] theorem Regs.putUdp_ethDst (r : Regs) (h : UdpHeader) : (r.putUdp h).ethDst = r.ethDst := rfl
@[simp] theorem Regs.putUdp_ethSrc (r : Regs) (h : UdpHeader) : (r.putUdp h).ethSrc = r.ethSrc := rfl
@[simp] theorem Regs.putUdp_ethType (r : Regs) (h : UdpHeader) : (r.putUdp h).ethType = r.ethType := rfl
@[simp] theorem Regs.putUdp_ipVer (r : Regs) (h : UdpHeader) : (r.putUdp h).ipVer = r.ipVer := rfl
@[simp] theorem Regs.putUdp_ipProto (r : Regs) (h : UdpHeader) : (r.putUdp h).ipProto = r.ipProto := rfl
@[simp] theorem Regs.putUdp_ip4Hlen (r : Regs) (h : UdpHeader) : (r.putUdp h).ip4Hlen = r.ip4Hlen := rfl
@[simp] theorem Regs.putUdp_ip4Ttl (r : Regs) (h : UdpHeader) : (r.putUdp h).ip4Ttl = r.ip4Ttl := rfl
@[simp] theorem Regs.putUdp_ip4Src (r : Regs) (h : UdpHeader) : (r.putUdp h).ip4Src = r.ip4Src := rfl
@[simp] theorem Regs.putUdp_ip4Dst (r : Regs) (h : UdpHeader) : (r.putUdp h).ip4Dst = r.ip4Dst := rfl
@[simp] theorem Regs.putUdp_ip6Tc (r : Regs) (h : UdpHeader) : (r.putUdp h).ip6Tc = r.ip6Tc := rfl
@[simp] theorem Regs.putUdp_ip6Flow (r : Regs) (h : UdpHeader) : (r.putUdp h).ip6Flow = r.ip6Flow := rfl
@[simp] theorem Regs.putUdp_ip6Plen (r : Regs) (h : UdpHeader) : (r.putUdp h).ip6Plen = r.ip6Plen := rfl
@[simp] theorem Regs.putUdp_ip6Hlim (r : Regs) (h : UdpHeader) : (r.putUdp h).ip6Hlim = r.ip6Hlim := rfl
@[simp] theorem Regs.putUdp_ip6Src (r : Regs) (h : UdpHeader) : (r.putUdp h).ip6Src = r.ip6Src := rfl
@[simp] theorem Regs.putUdp_ip6Dst (r : Regs) (h : UdpHeader) : (r.putUdp h).ip6Dst = r.ip6Dst := rfl
@[simp] theorem Regs.putUdp_icmpType (r : Regs) (h : UdpHeader) : (r.putUdp h).icmpType = r.icmpType := rfl
@[simp] theorem Regs.putUdp_icmpCode (r : Regs) (h : UdpHeader) : (r.putUdp h).icmpCode = r.icmpCode := rfl
@[simp] theorem Regs.putUdp_icmpCsum (r : Regs) (h : UdpHeader) : (r.putUdp h).icmpCsum = r.icmpCsum := rfl
@[simp] theorem Regs.putUdp_tcpSport (r : Regs) (h : UdpHeader) : (r.putUdp h).tcpSport = r.tcpSport := rfl
@[simp] theorem Regs.putUdp_tcpDport (r : Regs) (h : UdpHeader) : (r.putUdp h).tcpDport = r.tcpDport := rfl
@[simp] theorem Regs.putUdp_tcpSeq (r : Regs) (h : UdpHeader) : (r.putUdp h).tcpSeq = r.tcpSeq := rfl
@[simp] theorem Regs.putUdp_tcpAck (r : Regs) (h : UdpHeader) : (r.putUdp h).tcpAck = r.tcpAck := rfl
@[simp] theorem Regs.putUdp_tcpHlen (r : Regs) (h : UdpHeader) : (r.putUdp h).tcpHlen = r.tcpHlen := rfl
@[simp] theorem Regs.putUdp_tcpFlags (r : Regs) (h : UdpHeader) : (r.putUdp h).tcpFlags = r.tcpFlags := rfl
@[simp] theorem Regs.putUdp_udpSport (r : Regs) (h : UdpHeader) : (r.putUdp h).udpSport = some h.sport := rfl
@[simp] theorem Regs.putUdp_udpDport (r : Regs) (h : UdpHeader) : (r.putUdp h).udpDport = some h.dport := rfl
@[simp] theorem Regs.putUdp_udpLen (r : Regs) (h : UdpHeader) : (r.putUdp h).udpLen = some h.len := rfl
@[simp] theorem Regs.putUdp_udpCsum (r : Regs) (h : UdpHeader) : (r.putUdp h).udpCsum = some h.csum := rfl

@[simp] theorem Regs.putView_frameLen (r : Regs) (off len : Nat) : (r.putView off len).frameLen = r.frameLen := rfl
@[simp] theorem Regs.putView_payOff (r : Regs) (off len : Nat) : (r.putView off len).payOff = some off := rfl
@[simp] theorem Regs.putView_payLen (r : Regs) (off len : Nat) : (r.putView off len).payLen = some len := rfl
@[simp] theorem Regs.putView_ethDst (r : Regs) (off len : Nat) : (r.putView off len).ethDst = r.ethDst := rfl
@[simp] theorem Regs.putView_ethSrc (r : Regs) (off len : Nat) : (r.putView off len).ethSrc = r.ethSrc := rfl
@[simp] theorem Regs.putView_ethType (r : Regs) (off len : Nat) : (r.putView off len).ethType = r.ethType := rfl
@[simp] theorem Regs.putView_ipVer (r : Regs) (off len : Nat) : (r.putView off len).ipVer = r.ipVer := rfl
@[simp] theorem Regs.putView_ipProto (r : Regs) (off len : Nat) : (r.putView off len).ipProto = r.ipProto := rfl
@[simp] theorem Regs.putView_ip4Hlen (r : Regs) (off len : Nat) : (r.putView off len).ip4Hlen = r.ip4Hlen := rfl
@[simp] theorem Regs.putView_ip4Ttl (r : Regs) (off len : Nat) : (r.putView off len).ip4Ttl = r.ip4Ttl := rfl
@[simp] theorem Regs.putView_ip4Src (r : Regs) (off len : Nat) : (r.putView off len).ip4Src = r.ip4Src := rfl
@[simp] theorem Regs.putView_ip4Dst (r : Regs) (off len : Nat) : (r.putView off len).ip4Dst = r.ip4Dst := rfl
@[simp] theorem Regs.putView_ip6Tc (r : Regs) (off len : Nat) : (r.putView off len).ip6Tc = r.ip6Tc := rfl
@[simp] theorem Regs.putView_ip6Flow (r : Regs) (off len : Nat) : (r.putView off len).ip6Flow = r.ip6Flow := rfl
@[simp] theorem Regs.putView_ip6Plen (r : Regs) (off len : Nat) : (r.putView off len).ip6Plen = r.ip6Plen := rfl
@[simp] theorem Regs.putView_ip6Hlim (r : Regs) (off len : Nat) : (r.putView off len).ip6Hlim = r.ip6Hlim := rfl
@[simp] theorem Regs.putView_ip6Src (r : Regs) (off len : Nat) : (r.putView off len).ip6Src = r.ip6Src := rfl
@[simp] theorem Regs.putView_ip6Dst (r : Regs) (off len : Nat) : (r.putView off len).ip6Dst = r.ip6Dst := rfl
@[simp] theorem Regs.putView_icmpType (r : Regs) (off len : Nat) : (r.putView off len).icmpType = r.icmpType := rfl
@[simp] theorem Regs.putView_icmpCode (r : Regs) (off len : Nat) : (r.putView off len).icmpCode = r.icmpCode := rfl
@[simp] theorem Regs.putView_icmpCsum (r : Regs) (off len : Nat) : (r.putView off len).icmpCsum = r.icmpCsum := rfl
@[simp] theorem Regs.putView_tcpSport (r : Regs) (off len : Nat) : (r.putView off len).tcpSport = r.tcpSport := rfl
@[simp] theorem Regs.putView_tcpDport (r : Regs) (off len : Nat) : (r.putView off len).tcpDport = r.tcpDport := rfl
@[simp] theorem Regs.putView_tcpSeq (r : Regs) (off len : Nat) : (r.putView off len).tcpSeq = r.tcpSeq := rfl
@[simp] theorem Regs.putView_tcpAck (r : Regs) (off len : Nat) : (r.putView off len).tcpAck = r.tcpAck := rfl
@[simp] theorem Regs.putView_tcpHlen (r : Regs) (off len : Nat) : (r.putView off len).tcpHlen = r.tcpHlen := rfl
@[simp] theorem Regs.putView_tcpFlags (r : Regs) (off len : Nat) : (r.putView off len).tcpFlags = r.tcpFlags := rfl
@[simp] theorem Regs.putView_udpSport (r : Regs) (off len : Nat) : (r.putView off len).udpSport = r.udpSport := rfl
@[simp] theorem Regs.putView_udpDport (r : Regs) (off len : Nat) : (r.putView off len).udpDport = r.udpDport := rfl
@[simp] theorem Regs.putView_udpLen (r : Regs) (off len : Nat) : (r.putView off len).udpLen = r.udpLen := rfl
@[simp] theorem Regs.putView_udpCsum (r : Regs) (off len : Nat) : (r.putView off len).udpCsum = r.udpCsum := rfl

/-- No register holds a value in `Regs.empty`. -/
@[simp] theorem Regs.read_empty (x : Reg) : Regs.empty.read x = none := by
  cases x <;> rfl

/-- `Reg.all` lists every register. -/
theorem Reg.mem_all (x : Reg) : x ∈ Reg.all := by
  cases x <;> decide

/-- Two register files that read alike are equal. -/
theorem Regs.ext_read {r1 r2 : Regs} (h : ∀ x, r1.read x = r2.read x) : r1 = r2 := by
  have inj : ∀ {w : Nat} {a b : Option (BitVec w)}, a.map BitVec.toNat = b.map BitVec.toNat → a = b := by
    intro w a b hab
    cases a <;> cases b <;> simp_all [BitVec.toNat_inj]
  cases r1
  cases r2
  simp only [Regs.mk.injEq]
  exact ⟨h .frameLen, h .payOff, h .payLen, inj (h .ethDst), inj (h .ethSrc), inj (h .ethType),
    inj (h .ipVer), inj (h .ipProto), inj (h .ip4Hlen), inj (h .ip4Ttl), inj (h .ip4Src), inj (h .ip4Dst),
    inj (h .ip6Tc), inj (h .ip6Flow), inj (h .ip6Plen), inj (h .ip6Hlim), inj (h .ip6Src), inj (h .ip6Dst),
    inj (h .icmpType), inj (h .icmpCode), inj (h .icmpCsum), inj (h .tcpSport), inj (h .tcpDport), inj (h .tcpSeq),
    inj (h .tcpAck), inj (h .tcpHlen), inj (h .tcpFlags), inj (h .udpSport), inj (h .udpDport), inj (h .udpLen),
    inj (h .udpCsum)⟩

end Sys2Proof.Machine
end

