-- ==== Sys2Proof/Laws/Status.lean ====
section
/-! SUPPORT. Reading a field of STATUS after writing one, and the writes of each operation as masks. -/

namespace Sys2Proof.Machine

/-- A field reads back what was written to it. -/
theorem Status.get_put_same (st : Status) (lo : Nat) {w : Nat} (v : BitVec w) (h : lo + w ≤ 16) :
    (st.put lo v).get lo w = v := by
  apply BitVec.eq_of_getLsbD_eq
  intro i hi
  have h1 : lo + i < 16 := by omega
  simp [Status.get, Status.put, hi, h1]

/-- Writing a field leaves a field that does not overlap it. -/
theorem Status.get_put_other (st : Status) (lo lo' : Nat) {w w' : Nat} (v : BitVec w)
    (h : lo + w ≤ lo' ∨ lo' + w' ≤ lo) : (st.put lo v).get lo' w' = st.get lo' w' := by
  apply BitVec.eq_of_getLsbD_eq
  intro i hi
  by_cases h1 : lo' + i < 16
  · rcases h with h | h
    · have h2 : ¬ lo' + i - lo < w := by omega
      have h3 : v.getLsbD (lo' + i - lo) = false := BitVec.getLsbD_of_ge _ _ (Nat.le_of_not_lt h2)
      simp [Status.get, Status.put, hi, h1, h2, h3]
    · have h2 : lo' + i < lo := by omega
      simp [Status.get, Status.put, hi, h1, h2]
  · simp [Status.get, hi, BitVec.getLsbD_of_ge _ _ (Nat.le_of_not_lt h1)]

/-- `DONE` is set by its write. -/
@[simp] theorem Status.done_setDone (st : Status) : st.setDone.done = true := by
  simp [Status.done, Status.setDone, Status.get_put_same]

/-- Writing a field above bit 0 leaves `DONE`. -/
theorem Status.done_put (st : Status) (lo : Nat) {w : Nat} (v : BitVec w) (h : 1 ≤ lo) :
    (st.put lo v).done = st.done := by
  simp [Status.done, Status.get_put_other (w' := 1) st lo 0 v (Or.inr (by omega))]

@[simp] theorem Status.done_setL3 (st : Status) (k : L3Kind) : (st.setL3 k).done = st.done :=
  Status.done_put st 2 k.code (by decide)

@[simp] theorem Status.done_setL4 (st : Status) (k : L4Kind) : (st.setL4 k).done = st.done :=
  Status.done_put st 4 k.code (by decide)

@[simp] theorem Status.done_setLabel (st : Status) (l : Label) : (st.setLabel l).done = st.done :=
  Status.done_put st 10 l.code (by decide)

@[simp] theorem Status.done_setDoffOvr (st : Status) : st.setDoffOvr.done = st.done :=
  Status.done_put st 9 1#1 (by decide)

/-- `L3_KIND` reads back what was written. -/
@[simp] theorem Status.l3Code_setL3 (st : Status) (k : L3Kind) : (st.setL3 k).l3Code = k.code :=
  Status.get_put_same st 2 k.code (by decide)

/-- `L4_KIND` reads back what was written. -/
@[simp] theorem Status.l4Code_setL4 (st : Status) (k : L4Kind) : (st.setL4 k).l4Code = k.code :=
  Status.get_put_same st 4 k.code (by decide)

/-- `LABEL` reads back what was written. -/
@[simp] theorem Status.labelCode_setLabel (st : Status) (l : Label) : (st.setLabel l).labelCode = l.code :=
  Status.get_put_same st 10 l.code (by decide)

/-- `TRUNC` reads back what was written. -/
@[simp] theorem Status.truncCode_setTrunc (st : Status) (t : Trunc) : (st.setTrunc t).truncCode = t.code :=
  Status.get_put_same st 7 t.code (by decide)

/-- Writing the layer-4 kind, the label or the overrun flag leaves `L3_KIND`. -/
@[simp] theorem Status.l3Code_setL4 (st : Status) (k : L4Kind) : (st.setL4 k).l3Code = st.l3Code :=
  Status.get_put_other st 4 2 k.code (Or.inr (by decide))

@[simp] theorem Status.l3Code_setLabel (st : Status) (l : Label) : (st.setLabel l).l3Code = st.l3Code :=
  Status.get_put_other st 10 2 l.code (Or.inr (by decide))

@[simp] theorem Status.l3Code_setDone (st : Status) : st.setDone.l3Code = st.l3Code :=
  Status.get_put_other st 0 2 1#1 (Or.inl (by decide))

/-! ## The writes of each operation and entry, as masks on the whole of STATUS (R33, R34) -/

/-- Two STATUS values with the same sixteen bits are equal. -/
theorem Status.ext_bits {a b : Status} (h : ∀ i < 16, a.getLsbD i = b.getLsbD i) : a = b :=
  BitVec.eq_of_getLsbD_eq fun i hi => h i hi

/-- The last line of DECODE, as a mask. -/
theorem Status.setDone_eq (st : Status) : st.setDone = st ||| 0x0001#16 := by
  refine Status.ext_bits fun i hi => ?_
  unfold Status.setDone Status.put
  interval_cases i <;> simp

/-- What the entry of FrameTooShortForEthernet does to STATUS (R177). -/
theorem Status.drop_eq (st : Status) : st.setDrop.setDone = st ||| 0x0003#16 := by
  refine Status.ext_bits fun i hi => ?_
  unfold Status.setDone Status.setDrop Status.put
  interval_cases i <;> simp

/-- What the entry of TruncatedFrame(L3) does to STATUS (R177). -/
theorem Status.truncL3_eq (st : Status) :
    ((st.setTrunc .l3).setLabel .unknown).setDone = (st &&& ~~~0x1D80#16) ||| 0x0081#16 := by
  refine Status.ext_bits fun i hi => ?_
  unfold Status.setDone Status.setLabel Status.setTrunc Status.put Trunc.code Label.code
  interval_cases i <;> simp

/-- What the entry of TruncatedFrame(L4) does to STATUS (R177). -/
theorem Status.truncL4_eq (st : Status) (l : Label) (hl : l = .ipv4 ∨ l = .ipv6) :
    ((st.setTrunc .l4).setLabel l).setDone = (st &&& ~~~0x1D80#16) ||| (if l = .ipv4 then 0x1501#16 else 0x1901#16) := by
  refine Status.ext_bits fun i hi => ?_
  unfold Status.setDone Status.setLabel Status.setTrunc Status.put Trunc.code
  rcases hl with rfl | rfl <;> simp only [Label.code] <;> interval_cases i <;> simp

/-- What IPV4 does to STATUS (R111). -/
theorem Status.setL3_v4_eq (st : Status) : st.setL3 .v4 = (st &&& ~~~0x000C#16) ||| 0x0004#16 := by
  refine Status.ext_bits fun i hi => ?_
  unfold Status.setL3 Status.put L3Kind.code
  interval_cases i <;> simp

/-- What IPV6 does to STATUS (R114). -/
theorem Status.setL3_v6_eq (st : Status) : st.setL3 .v6 = (st &&& ~~~0x000C#16) ||| 0x0008#16 := by
  refine Status.ext_bits fun i hi => ?_
  unfold Status.setL3 Status.put L3Kind.code
  interval_cases i <;> simp

/-- What L3OTHER does to STATUS (R116). -/
theorem Status.l3other_eq (st : Status) :
    (st.setL3 .other).setLabel .unknown = (st &&& ~~~0x1C0C#16) ||| 0x000C#16 := by
  refine Status.ext_bits fun i hi => ?_
  unfold Status.setLabel Status.setL3 Status.put L3Kind.code Label.code
  interval_cases i <;> simp

/-- What a completed layer-4 operation does to STATUS, but for DOFF_OVR. -/
theorem Status.l4_eq (st : Status) (k : L4Kind) (l : Label) :
    (st.setL4 k).setLabel l = (st &&& ~~~0x1C70#16) ||| ((k.code.setWidth 16 <<< 4) ||| (l.code.setWidth 16 <<< 10)) := by
  refine Status.ext_bits fun i hi => ?_
  unfold Status.setLabel Status.setL4 Status.put
  interval_cases i <;> simp

/-- `L3_KIND = V4`, as a mask. -/
theorem Status.isL3_v4_iff (st : Status) : st.isL3 .v4 = true ↔ st &&& 0x000C#16 = 0x0004#16 := by
  unfold Status.isL3 Status.l3Code Status.get
  rw [beq_iff_eq]
  constructor
  · intro h
    have h0 := congrArg (fun x : BitVec 2 => x.getLsbD 0) h
    have h1 := congrArg (fun x : BitVec 2 => x.getLsbD 1) h
    simp [L3Kind.code] at h0 h1
    refine Status.ext_bits fun i hi => ?_
    interval_cases i <;> simp_all
  · intro h
    have h0 := congrArg (fun x : BitVec 16 => x.getLsbD 2) h
    have h1 := congrArg (fun x : BitVec 16 => x.getLsbD 3) h
    simp at h0 h1
    apply BitVec.eq_of_getLsbD_eq
    intro i hi
    interval_cases i <;> simp_all [L3Kind.code]

/-- TCP's overrun flag on top of its kind and label, as a mask (R133). -/
theorem Status.overrun_eq (st : Status) :
    ((st.setL4 .tcp).setLabel .tcp).setDoffOvr = (st &&& ~~~0x1C70#16) ||| 0x0A20#16 := by
  refine Status.ext_bits fun i hi => ?_
  unfold Status.setDoffOvr Status.setLabel Status.setL4 Status.put L4Kind.code Label.code
  interval_cases i <;> simp

end Sys2Proof.Machine
end

