-- ==== Sys2Proof/Laws/Ops.lean ====
section
/-! SUPPORT. Everything each shared operation and each layer operation can do, said once: a prover cites these and
unfolds none of them. -/

namespace Sys2Proof.Machine

/-! ## Ending a DECODE -/

/-- An exception entry leaves `DONE` set and the block not busy. -/
theorem State.endByException_done (s : State) (st : Status) :
    (s.endByException st).status.done = true ∧ (s.endByException st).phase = .idle := by
  simp

theorem State.enterFrameTooShort_eq (s : State) :
    s.enterFrameTooShort = { s with status := s.status.setDrop.setDone, phase := .idle } := rfl

theorem State.enterTruncatedL3_eq (s : State) :
    s.enterTruncatedL3 =
      { s with
        regs := s.regs.putView 14 (s.flen - 14)
        status := ((s.status.setTrunc .l3).setLabel .unknown).setDone
        phase := .idle } := rfl

theorem State.enterTruncatedL4_eq (s : State) :
    s.enterTruncatedL4 =
      { s with
        regs := s.regs.putView s.pc s.remaining
        status := ((s.status.setTrunc .l4).setLabel (if s.status.isL3 .v4 then .ipv4 else .ipv6)).setDone
        phase := .idle } := rfl

/-- `thenUnlessDone` on a next state. -/
@[simp] theorem thenUnlessDone_next (s : State) (f : State → Out) :
    thenUnlessDone (.next s) f = if s.status.done then .next s else f s := rfl

/-- If `thenUnlessDone` answers a next state, either an exception ended the DECODE there, or the next line answers it. -/
theorem thenUnlessDone_cases {o : Out} {f : State → Out} {t : State} (h : thenUnlessDone o f = .next t) :
    (o = .next t ∧ t.status.done = true) ∨ ∃ s, o = .next s ∧ s.status.done = false ∧ f s = .next t := by
  cases o with
  | next s =>
    simp only [thenUnlessDone_next] at h
    by_cases hd : s.status.done = true
    · simp only [hd, if_true] at h
      cases h
      exact .inl ⟨rfl, hd⟩
    · simp only [hd] at h
      exact .inr ⟨s, rfl, by simpa using hd, by simpa using h⟩
  | fault r => simp [thenUnlessDone] at h
  | refused r => simp [thenUnlessDone] at h

/-! ## TCP's payload view (R133): only STATUS and the view change -/

@[simp] theorem State.tcpView_frame (s : State) (off : Nat) : (s.tcpView off).frame = s.frame := by
  unfold State.tcpView; split <;> rfl

@[simp] theorem State.tcpView_flen (s : State) (off : Nat) : (s.tcpView off).flen = s.flen := by
  unfold State.tcpView; split <;> rfl

@[simp] theorem State.tcpView_pc (s : State) (off : Nat) : (s.tcpView off).pc = s.pc := by
  unfold State.tcpView; split <;> rfl

@[simp] theorem State.tcpView_phase (s : State) (off : Nat) : (s.tcpView off).phase = s.phase := by
  unfold State.tcpView; split <;> rfl

@[simp] theorem State.tcpView_epoch (s : State) (off : Nat) : (s.tcpView off).epoch = s.epoch := by
  unfold State.tcpView; split <;> rfl

@[simp] theorem State.tcpView_done (s : State) (off : Nat) : (s.tcpView off).status.done = s.status.done := by
  unfold State.tcpView; split <;> simp

/-- The view and STATUS when the offset fits. -/
theorem State.tcpView_fits (s : State) (off : Nat) (h : off ≤ s.remaining) :
    s.tcpView off = s.setView (s.pc + off) (s.remaining - off) := by
  unfold State.tcpView
  rw [if_neg (by omega)]

/-- The view and STATUS when the offset exceeds the bytes available. -/
theorem State.tcpView_overrun (s : State) (off : Nat) (h : s.remaining < off) :
    s.tcpView off = (s.setStatus s.status.setDoffOvr).setView s.flen 0 := by
  unfold State.tcpView
  rw [if_pos h]

/-! ## The submit -/

/-- At most `FLEN_MAX` is below `2 ^ FLEN_BITS` (R6). -/
theorem le_flenMax_iff (flenBits n : Nat) : n ≤ Config.flenMax flenBits ↔ n < 2 ^ flenBits := by
  have h : 0 < 2 ^ flenBits := Nat.two_pow_pos flenBits
  unfold Config.flenMax
  omega

/-- What an accepted submit requires, and the state it answers. -/
theorem submit_next {s t : State} {flenBits flen : Nat} {bytes : List Byte}
    (h : s.submit flenBits bytes flen = .next t) :
    s.busy = false ∧ flen < 2 ^ flenBits ∧
      t = { s.clearResult with
        frame := Memory.ofBytes 0 (bytes.take flen), flen := flen, phase := .submitted, epoch := s.epoch + 1 } := by
  unfold State.submit at h
  split at h
  · cases h
  · split at h
    · cases h
    · rename_i hb hl
      cases h
      exact ⟨by simpa using hb, (le_flenMax_iff flenBits flen).1 (Nat.not_lt.1 hl), rfl⟩

/-- When a submit is accepted, and the state it then answers. -/
theorem submit_eq (s : State) (flenBits flen : Nat) (bytes : List Byte) (hb : s.busy = false)
    (hl : flen < 2 ^ flenBits) :
    s.submit flenBits bytes flen = .next { s.clearResult with
      frame := Memory.ofBytes 0 (bytes.take flen), flen := flen, phase := .submitted, epoch := s.epoch + 1 } := by
  have h := Nat.not_lt.2 ((le_flenMax_iff flenBits flen).2 hl)
  simp [State.submit, hb, h]

/-! ## The layer operations: each is one of two explicit next states -/

theorem execEth_cases (s : State) :
    (s.flen < 14 ∧ execEth s = .next s.enterFrameTooShort) ∨
    (14 ≤ s.flen ∧ ∃ h, s.readEth 0 = some h ∧
      execEth s = .next (((s.setRegs (s.regs.putEth h)).setPc 14).goto .layer3)) := by
  unfold execEth ethHdrLen
  by_cases h : s.flen < 14
  · exact .inl ⟨h, by simp [h]⟩
  · exact .inr ⟨by omega, _, State.readEth_eq s 0 (by omega), by
      rw [if_neg h, State.readEth_eq s 0 (by omega)]⟩

theorem execIpv4_cases (s : State) :
    ((s.remaining < 1 ∨ s.remaining < (ip4HeaderLength (s.frameByte s.pc)).toNat ∨ s.remaining < 20) ∧
      execIpv4 s = .next s.enterTruncatedL3) ∨
    (20 ≤ s.remaining ∧ (ip4HeaderLength (s.frameByte s.pc)).toNat ≤ s.remaining ∧
      ∃ h, s.readIp4 s.pc = some h ∧ h.hlen = ip4HeaderLength (s.frameByte s.pc) ∧
        execIpv4 s = .next ((((s.setRegs (s.regs.putIp4 h)).setStatus (s.status.setL3 .v4)).setPc
          (s.pc + h.hlen.toNat)).goto .layer4)) := by
  unfold execIpv4 ip4Min
  by_cases h1 : s.remaining < 1
  · exact .inl ⟨.inl h1, by simp [h1]⟩
  · have hn := State.pc_add_remaining s (by omega)
    have hf : s.field 8 s.pc = some (s.frameByte s.pc) := by
      rw [State.field_eq s 8 _ (by omega), State.wordAt_8]
    rw [if_neg h1, hf]
    dsimp only
    by_cases h2 : s.remaining < (ip4HeaderLength (s.frameByte s.pc)).toNat
    · exact .inl ⟨.inr (.inl h2), by rw [if_pos h2]⟩
    · rw [if_neg h2]
      by_cases h3 : s.remaining < 20
      · exact .inl ⟨.inr (.inr h3), by rw [if_pos h3]⟩
      · exact .inr ⟨by omega, by omega, _, State.readIp4_eq s _ (by omega), rfl, by
          rw [if_neg h3, State.readIp4_eq s _ (by omega)]⟩

theorem execIpv6_cases (s : State) :
    (s.remaining < 40 ∧ execIpv6 s = .next s.enterTruncatedL3) ∨
    (40 ≤ s.remaining ∧ ∃ h, s.readIp6 s.pc = some h ∧
      execIpv6 s = .next ((((s.setRegs (s.regs.putIp6 h)).setStatus (s.status.setL3 .v6)).setPc
        (s.pc + 40)).goto .layer4)) := by
  unfold execIpv6 ip6HdrLen
  by_cases h : s.remaining < 40
  · exact .inl ⟨h, by simp [h]⟩
  · have hn := State.pc_add_remaining s (by omega)
    exact .inr ⟨by omega, _, State.readIp6_eq s _ (by omega), by
      rw [if_neg h, State.readIp6_eq s _ (by omega)]⟩

theorem execIcmp_cases (s : State) :
    (s.remaining < 4 ∧ execIcmp s = .next s.enterTruncatedL4) ∨
    (4 ≤ s.remaining ∧ ∃ h, s.readIcmp s.pc = some h ∧
      execIcmp s = .next ((((s.setRegs (s.regs.putIcmp h)).setStatus ((s.status.setL4 .icmp).setLabel .icmp)).setView
        (s.pc + 4) (s.remaining - 4)).goto .finish)) := by
  unfold execIcmp icmpMin
  by_cases h : s.remaining < 4
  · exact .inl ⟨h, by simp [h]⟩
  · have hn := State.pc_add_remaining s (by omega)
    exact .inr ⟨by omega, _, State.readIcmp_eq s _ (by omega), by
      rw [if_neg h, State.readIcmp_eq s _ (by omega)]⟩

theorem execTcp_cases (s : State) :
    (s.remaining < 14 ∧ execTcp s = .next s.enterTruncatedL4) ∨
    (14 ≤ s.remaining ∧ ∃ h, s.readTcp s.pc = some h ∧
      execTcp s = .next ((((s.setRegs (s.regs.putTcp h)).setStatus ((s.status.setL4 .tcp).setLabel .tcp)).tcpView
        h.hlen.toNat).goto .finish)) := by
  unfold execTcp tcpMin
  by_cases h : s.remaining < 14
  · exact .inl ⟨h, by simp [h]⟩
  · have hn := State.pc_add_remaining s (by omega)
    exact .inr ⟨by omega, _, State.readTcp_eq s _ (by omega), by
      rw [if_neg h, State.readTcp_eq s _ (by omega)]⟩

theorem execUdp_cases (s : State) :
    (s.remaining < 8 ∧ execUdp s = .next s.enterTruncatedL4) ∨
    (8 ≤ s.remaining ∧ ∃ h, s.readUdp s.pc = some h ∧
      execUdp s = .next ((((s.setRegs (s.regs.putUdp h)).setStatus ((s.status.setL4 .udp).setLabel .udp)).setView
        (s.pc + 8) (s.remaining - 8)).goto .finish)) := by
  unfold execUdp udpMin
  by_cases h : s.remaining < 8
  · exact .inl ⟨h, by simp [h]⟩
  · have hn := State.pc_add_remaining s (by omega)
    exact .inr ⟨by omega, _, State.readUdp_eq s _ (by omega), by
      rw [if_neg h, State.readUdp_eq s _ (by omega)]⟩

/-! ## Dispatch and fetch -/

/-- Layer-3 dispatch runs the operation the decoder gives for the ethertype. -/
theorem l3Dispatch_eq (s : State) (e : BitVec 16) (h : s.regs.ethType = some e) :
    l3Dispatch s = exec (decodeEthertype e) s := by
  simp only [l3Dispatch, h, decodeEthertype]
  split
  · rfl
  · split <;> rfl

/-- Layer-4 dispatch runs the operation the decoder gives for the protocol number. -/
theorem l4Dispatch_eq (s : State) (p : BitVec 8) (h : s.regs.ipProto = some p) :
    l4Dispatch s = exec (decodeProtocol p) s := by
  simp only [l4Dispatch, h, decodeProtocol]
  split
  · rfl
  · split
    · rfl
    · split <;> rfl

/-- The two bytes of an ethertype, in frame order, are the ethertype again. -/
theorem append_bytesBE_two (e : BitVec 16) :
    ∃ hi lo : Byte, bytesBE 2 e.toNat = [hi, lo] ∧ (hi ++ lo : BitVec 16) = e := by
  refine ⟨BitVec.ofNat 8 (e.toNat / 256), BitVec.ofNat 8 e.toNat, by simp [bytesBE], ?_⟩
  apply BitVec.eq_of_toNat_eq
  have h : e.toNat < 65536 := e.isLt
  rw [BitVec.toNat_append]
  simp only [BitVec.toNat_ofNat]
  rw [← Nat.shiftLeft_add_eq_or_of_lt (by omega), Nat.shiftLeft_eq]
  omega

/-- The ethertype decoder on the bytes of an ethertype. -/
theorem decodeBytes_layer3 (e : BitVec 16) : decodeBytes .layer3 (bytesBE 2 e.toNat) = .ok (decodeEthertype e) := by
  obtain ⟨hi, lo, h1, h2⟩ := append_bytesBE_two e
  rw [h1]
  simp only [decodeBytes, h2]

/-- The protocol decoder on the byte of a protocol number. -/
theorem decodeBytes_layer4 (p : BitVec 8) : decodeBytes .layer4 (bytesBE 1 p.toNat) = .ok (decodeProtocol p) := by
  simp [bytesBE, decodeBytes]

/-- What comes next in each position. -/
theorem State.fetch_layer3 (s : State) (e : BitVec 16) (hp : s.phase = .layer3) (h : s.regs.ethType = some e) :
    s.fetch = .instr (decodeEthertype e) := by
  simp [State.fetch, hp, h, selectFrom, decodeBytes_layer3]

theorem State.fetch_layer4 (s : State) (p : BitVec 8) (hp : s.phase = .layer4) (h : s.regs.ipProto = some p) :
    s.fetch = .instr (decodeProtocol p) := by
  simp [State.fetch, hp, h, selectFrom, decodeBytes_layer4]

/-- What a step does in each position of the block. -/
theorem step_idle (s : State) (hp : s.phase = .idle) : step s = .next s := by
  simp [step, State.fetch, hp]

theorem step_submitted (s : State) (hp : s.phase = .submitted) : step s = exec .decode s := by
  simp [step, State.fetch, hp, selectFrom, decodeBytes]

theorem step_layer2 (s : State) (hp : s.phase = .layer2) : step s = exec .eth s := by
  simp [step, State.fetch, hp, selectFrom, decodeBytes]

theorem step_layer3 (s : State) (e : BitVec 16) (hp : s.phase = .layer3) (h : s.regs.ethType = some e) :
    step s = exec (decodeEthertype e) s := by
  simp [step, State.fetch_layer3 s e hp h]

theorem step_layer4 (s : State) (p : BitVec 8) (hp : s.phase = .layer4) (h : s.regs.ipProto = some p) :
    step s = exec (decodeProtocol p) s := by
  simp [step, State.fetch_layer4 s p hp h]

theorem step_finish (s : State) (hp : s.phase = .finish) : step s = .next s.finishDecode := by
  simp [step, State.fetch, hp]

/-! ## Operations by slot -/

/-- Every layer operation answers a next state from every state. -/
theorem layer_next (i : Instr) (s : State) (hi : i ≠ .decode) : ∃ t, exec i s = .next t := by
  cases i with
  | eth => rcases execEth_cases s with ⟨_, e⟩ | ⟨_, _, _, e⟩ <;> exact ⟨_, e⟩
  | ipv4 => rcases execIpv4_cases s with ⟨_, e⟩ | ⟨_, _, _, _, _, e⟩ <;> exact ⟨_, e⟩
  | ipv6 => rcases execIpv6_cases s with ⟨_, e⟩ | ⟨_, _, _, e⟩ <;> exact ⟨_, e⟩
  | l3other e => exact ⟨_, rfl⟩
  | icmp => rcases execIcmp_cases s with ⟨_, e⟩ | ⟨_, _, _, e⟩ <;> exact ⟨_, e⟩
  | tcp => rcases execTcp_cases s with ⟨_, e⟩ | ⟨_, _, _, e⟩ <;> exact ⟨_, e⟩
  | udp => rcases execUdp_cases s with ⟨_, e⟩ | ⟨_, _, _, e⟩ <;> exact ⟨_, e⟩
  | l4other p => exact ⟨_, rfl⟩
  | decode => exact absurd rfl hi

/-- An ethertype selects no composite. -/
theorem decodeEthertype_ne_decode (e : BitVec 16) : decodeEthertype e ≠ .decode := by
  unfold decodeEthertype
  split
  · simp
  · split <;> simp

/-- A protocol number selects no composite. -/
theorem decodeProtocol_ne_decode (p : BitVec 8) : decodeProtocol p ≠ .decode := by
  unfold decodeProtocol
  split
  · simp
  · split
    · simp
    · split <;> simp

/-- After ETH: dropped, or at layer 3 with the Ethernet group written. -/
theorem eth_outcome {s t : State} (h : exec .eth s = .next t) :
    (s.flen < 14 ∧ t = s.enterFrameTooShort) ∨
    (14 ≤ s.flen ∧ ∃ x, s.readEth 0 = some x ∧
      t = ((s.setRegs (s.regs.putEth x)).setPc 14).goto .layer3) := by
  rcases execEth_cases s with ⟨hl, e⟩ | ⟨hl, x, hx, e⟩
  · replace h := e.symm.trans h
    cases h
    exact .inl ⟨hl, rfl⟩
  · replace h := e.symm.trans h
    cases h
    exact .inr ⟨hl, x, hx, rfl⟩

/-- After a layer-3 operation: truncated, OTHER and at the last line, or at layer 4 with a protocol number. -/
theorem layer3_outcome {e : BitVec 16} {s t : State} (h : exec (decodeEthertype e) s = .next t) :
    t = s.enterTruncatedL3 ∨
    (t.phase = .finish ∧ t.status = (s.status.setL3 .other).setLabel .unknown) ∨
    (t.phase = .layer4 ∧ (t.status = s.status.setL3 .v4 ∨ t.status = s.status.setL3 .v6) ∧
      ∃ p, t.regs.ipProto = some p) := by
  unfold decodeEthertype at h
  split at h
  · rcases execIpv4_cases s with ⟨_, e⟩ | ⟨_, _, x, hx, _, e⟩
    · replace h := e.symm.trans h
      cases h
      exact .inl rfl
    · replace h := e.symm.trans h
      cases h
      exact .inr (.inr ⟨rfl, .inl rfl, x.proto, rfl⟩)
  · split at h
    · rcases execIpv6_cases s with ⟨_, e⟩ | ⟨_, x, hx, e⟩
      · replace h := e.symm.trans h
        cases h
        exact .inl rfl
      · replace h := e.symm.trans h
        cases h
        exact .inr (.inr ⟨rfl, .inr rfl, x.proto, rfl⟩)
    · cases h
      exact .inr (.inl ⟨rfl, rfl⟩)

/-- After a layer-4 operation: truncated, or at the last line with `DONE` as before. -/
theorem layer4_outcome {p : BitVec 8} {s t : State} (h : exec (decodeProtocol p) s = .next t) :
    t = s.enterTruncatedL4 ∨ (t.phase = .finish ∧ t.status.done = s.status.done) := by
  unfold decodeProtocol at h
  split at h
  · rcases execIcmp_cases s with ⟨_, e⟩ | ⟨_, x, hx, e⟩
    · replace h := e.symm.trans h
      cases h
      exact .inl rfl
    · replace h := e.symm.trans h
      cases h
      exact .inr ⟨rfl, by simp⟩
  · split at h
    · rcases execTcp_cases s with ⟨_, e⟩ | ⟨_, x, hx, e⟩
      · replace h := e.symm.trans h
        cases h
        exact .inl rfl
      · replace h := e.symm.trans h
        cases h
        exact .inr ⟨by simp, by simp⟩
    · split at h
      · rcases execUdp_cases s with ⟨_, e⟩ | ⟨_, x, hx, e⟩
        · replace h := e.symm.trans h
          cases h
          exact .inl rfl
        · replace h := e.symm.trans h
          cases h
          exact .inr ⟨rfl, by simp⟩
      · cases h
        exact .inr ⟨rfl, by simp⟩

/-- The two IP kinds are recognised after their writes, and OTHER is neither. -/
theorem isL3_after_setL3 (st : Status) :
    ((st.setL3 .v4).isL3 .v4 || (st.setL3 .v4).isL3 .v6) = true ∧
    ((st.setL3 .v6).isL3 .v4 || (st.setL3 .v6).isL3 .v6) = true ∧
    (((st.setL3 .other).setLabel .unknown).isL3 .v4 || ((st.setL3 .other).setLabel .unknown).isL3 .v6) = false := by
  simp [Status.isL3, L3Kind.code]

/-! ## DECODE: the operations it runs, in order -/

/-- What a DECODE runs, and where it ends: at a drop, at a layer-3 truncation, after L3OTHER, or after layer 4. -/
theorem execDecode_inv {s t : State} (h : execDecode s = .next t) :
    ∃ s1, exec .eth s.beginDecode = .next s1 ∧
      ((s.flen < 14 ∧ t = s1 ∧ s1 = s.beginDecode.enterFrameTooShort) ∨
        ∃ x s2, 14 ≤ s.flen ∧ s.beginDecode.readEth 0 = some x ∧
          s1 = ((s.beginDecode.setRegs (s.beginDecode.regs.putEth x)).setPc 14).goto .layer3 ∧
          exec (decodeEthertype x.etherType) s1 = .next s2 ∧
          ((t = s2 ∧ s2 = s1.enterTruncatedL3) ∨
            (s2.phase = .finish ∧ t = s2.finishDecode) ∨
            ∃ p s3, s2.phase = .layer4 ∧ s2.status.done = false ∧ s2.regs.ipProto = some p ∧
              exec (decodeProtocol p) s2 = .next s3 ∧
              ((t = s3 ∧ s3 = s2.enterTruncatedL4) ∨ (s3.phase = .finish ∧ t = s3.finishDecode)))) := by
  have hd0 : s.beginDecode.status.done = false := by simp [Status.done, Status.get]
  obtain ⟨s1, h1⟩ := layer_next .eth s.beginDecode (by simp)
  refine ⟨s1, h1, ?_⟩
  have e1 : execEth s.beginDecode = .next s1 := h1
  unfold execDecode at h
  rw [e1, thenUnlessDone_next] at h
  rcases eth_outcome h1 with ⟨hl, rfl⟩ | ⟨hl, x, hx, rfl⟩
  · refine .inl ⟨hl, ?_, rfl⟩
    rw [if_pos (by simp [State.enterFrameTooShort])] at h
    cases h
    rfl
  · refine .inr ?_
    rw [if_neg (by simpa using hd0), l3Dispatch_eq _ x.etherType rfl] at h
    obtain ⟨s2, h2⟩ := layer_next (decodeEthertype x.etherType)
      (((s.beginDecode.setRegs (s.beginDecode.regs.putEth x)).setPc 14).goto .layer3)
      (decodeEthertype_ne_decode _)
    refine ⟨x, s2, hl, hx, rfl, h2, ?_⟩
    rw [h2, thenUnlessDone_next] at h
    have hs := isL3_after_setL3 (((s.beginDecode.setRegs (s.beginDecode.regs.putEth x)).setPc 14).goto .layer3).status
    rcases layer3_outcome h2 with rfl | ⟨hp, hst⟩ | ⟨hp, hst, p, hpr⟩
    · refine .inl ⟨?_, rfl⟩
      rw [if_pos (by simp [State.enterTruncatedL3])] at h
      cases h
      rfl
    · refine .inr (.inl ⟨hp, ?_⟩)
      rw [if_neg (by rw [hst]; simp; simpa using hd0), afterLayer3, hst, hs.2.2] at h
      cases h
      rfl
    · refine .inr (.inr ?_)
      have hd2 : s2.status.done = false := by
        rcases hst with hst | hst <;> rw [hst] <;> simp <;> simpa using hd0
      have hk : (s2.status.isL3 .v4 || s2.status.isL3 .v6) = true := by
        rcases hst with hst | hst <;> rw [hst]
        · exact hs.1
        · exact hs.2.1
      rw [if_neg (by simp [hd2]), afterLayer3, hk, if_pos rfl, l4Dispatch_eq _ p hpr] at h
      obtain ⟨s3, h3⟩ := layer_next (decodeProtocol p) s2 (decodeProtocol_ne_decode _)
      refine ⟨p, s3, hp, hd2, hpr, h3, ?_⟩
      rw [h3, thenUnlessDone_next] at h
      rcases layer4_outcome h3 with rfl | ⟨hp3, hd3⟩
      · refine .inl ⟨?_, rfl⟩
        rw [if_pos (by simp [State.enterTruncatedL4])] at h
        cases h
        rfl
      · refine .inr ⟨hp3, ?_⟩
        rw [if_neg (by simp [hd3, hd2])] at h
        cases h
        rfl

/-! ## Runs of steps -/

/-- One step of a run that answers a next state. -/
theorem run_succ {s t : State} (k : Nat) (h : step s = .next t) : core.run (k + 1) s = core.run k t := by
  have h' : core.step s = .next t := h
  simp only [Host.Core.run]
  rw [h']

/-- A block that is not busy stays as it is. -/
theorem run_idle (k : Nat) (s : State) (h : s.phase = .idle) : core.run k s = .next s := by
  induction k with
  | zero => rfl
  | succ k ih => exact (run_succ k (step_idle s h)).trans ih

end Sys2Proof.Machine
end

