-- ==== Sys2Proof/Laws/PerInstr.lean ====
section
/-! SUPPORT. Statements made per instruction. SelectorWidth: the selector an operation is encoded as has exactly the
number of bytes its slot reads (spec/30_encoding.md R70), so that a decoder never runs short or over. -/

namespace Sys2Proof.Laws.SelectorWidth

/-- The selector of `i` has the width of its slot. -/
def Statement (i : Instr) : Prop := (encode i).2.length = (encode i).1.width

theorem eth : Statement .eth := rfl

theorem ipv4 : Statement .ipv4 := rfl

theorem ipv6 : Statement .ipv6 := rfl

theorem l3other (ethertype : BitVec 16) : Statement (.l3other ethertype) := rfl

theorem icmp : Statement .icmp := rfl

theorem tcp : Statement .tcp := rfl

theorem udp : Statement .udp := rfl

theorem l4other (protocol : BitVec 8) : Statement (.l4other protocol) := rfl

theorem decode : Statement .decode := rfl

end Sys2Proof.Laws.SelectorWidth
end

