-- ==== Sys2Proof/Tests/Slice0.lean ====
section
/-! SUPPORT. The package's own tests. Expected results are the vectors of spec/95_test_vectors.md (its ids are named at
each test) and the tables of spec/30_encoding.md; and for each statement with hypotheses a witness that meets them. -/

namespace Sys2Proof.Tests

open Sys2Proof.Machine

/-! ## Frames of spec/95_test_vectors.md -/

/-- Bytes from numbers. -/
def bytes (l : List Nat) : List Byte := l.map (BitVec.ofNat 8)

/-- The prefix M1 of Part 2. -/
def m1 : List Nat := [0x00, 0x11, 0x22, 0xAA, 0xBB, 0xCC, 0xDE, 0xAD, 0xBE, 0xEF, 0x00, 0x01]

/-- The prefix M6 of Part 2. -/
def m6 : List Nat := [0x33, 0x33, 0x00, 0x00, 0x00, 0x01, 0x02, 0x00, 0x5E, 0x00, 0x02, 0x53]

/-- The IPv4 addresses AD4 of Part 2. -/
def ad4 : List Nat := [0xC0, 0xA8, 0x00, 0x01, 0x0A, 0x00, 0x00, 0xFE]

/-- The IPv6 addresses AD6 of Part 2. -/
def ad6 : List Nat :=
  [0x20, 0x01, 0x0D, 0xB8, 0, 0, 0, 0, 0, 0, 0, 0, 0, 0, 0, 0x01] ++
  [0x20, 0x01, 0x0D, 0xB8, 0, 0, 0, 0, 0, 0, 0, 0, 0, 0, 0, 0x02]

/-- The prefix of section 2.4: Ethernet and a 20-byte IPv4 header with protocol `p`. -/
def over4 (p : Nat) : List Nat :=
  m1 ++ [0x08, 0x00, 0x45, 0x00, 0x00, 0x00, 0x1C, 0x46, 0x40, 0x00, 0x40, p, 0x00, 0x00] ++ ad4

/-- Ethernet and an IPv6 header with protocol `p`. -/
def over6 (p : Nat) : List Nat := m6 ++ [0x86, 0xDD, 0x60, 0x00, 0x00, 0x00, 0x00, 0x08, p, 0x40] ++ ad6

/-- Program P1. -/
def p1 : List Byte := bytes (m1 ++ [0x08, 0x00, 0x45, 0x00, 0x00, 0x2C, 0x1C, 0x46, 0x40, 0x00, 0x40, 0x06, 0x00, 0x00]
  ++ ad4 ++ [0x01, 0xBB, 0xC9, 0x3A, 0x01, 0x02, 0x03, 0x04, 0xA0, 0xB0, 0xC0, 0xD0, 0x50, 0x12]
  ++ [0x72, 0x10, 0x00, 0x00, 0x00, 0x00, 0xCA, 0xFE, 0xF0, 0x0D])

/-- Program P2. -/
def p2 : List Byte := bytes (m6 ++ [0x86, 0xDD, 0x6A, 0xB1, 0x23, 0x45, 0x00, 0x0C, 0x11, 0x40]
  ++ [0x20, 0x01, 0x0D, 0xB8, 0, 0, 0, 0, 0, 0, 0, 0, 0, 0, 0, 0x01]
  ++ [0xFE, 0x80, 0, 0, 0, 0, 0, 0, 0x02, 0x00, 0x5E, 0xFF, 0xFE, 0x00, 0x02, 0x53]
  ++ [0x14, 0xE9, 0x00, 0x35, 0x00, 0x0C, 0xBE, 0xEF, 0x01, 0x02, 0x03, 0x04])

/-- Program P3. -/
def p3 : List Byte := bytes ([0xFF, 0xFF, 0xFF, 0xFF, 0xFF, 0xFF, 0x0A, 0x0B, 0x0C, 0x0D, 0x0E, 0x0F, 0x08, 0x00]
  ++ [0x46, 0x00, 0x00, 0x24, 0x1C, 0x46, 0x40, 0x00, 0x01, 0x01, 0x00, 0x00]
  ++ [0xAC, 0x10, 0xFE, 0x01, 0x08, 0x08, 0x08, 0x08, 0x01, 0x01, 0x01, 0x01]
  ++ [0x08, 0x00, 0xF7, 0xFF, 0x00, 0x01, 0x00, 0x02, 0x61, 0x62])

/-- Frame I5, program P4. -/
def i5 : List Byte := bytes (m1 ++ [0x08, 0x00, 0x4F, 0x00, 0x00, 0x18, 0x1C, 0x46, 0x40, 0x00, 0x40, 0x06, 0x00, 0x00]
  ++ [0x01, 0x02, 0x03, 0x04, 0x05, 0x06, 0x07, 0x08, 0x00, 0x00, 0x00, 0x00])

/-- Frame E3. -/
def e3 : List Byte := bytes [0x00, 0x11, 0x22, 0x33, 0x44, 0x55, 0x66, 0x77, 0x88, 0x99]

/-- Frame E4. -/
def e4 : List Byte := bytes (m1 ++ [0x88, 0xCC])

/-- The block after reset with a frame submitted. -/
def loaded (f : List Byte) : State :=
  match State.reset.submit Config.flenBits f f.length with
  | .next s => s
  | .fault _ => State.reset
  | .refused _ => State.reset

/-- The same with the cursor at `pc`. -/
def loadedAt (f : List Byte) (pc : Nat) : State := (loaded f).setPc pc

/-- The next state, or the state after reset where there is none. -/
def nextOr (o : Out) : State :=
  match o with
  | .next s => s
  | .fault _ => State.reset
  | .refused _ => State.reset

/-- A frame decoded. -/
def decoded (f : List Byte) : State := nextOr (step (loaded f))

/-! ## WellFormed refuses ill-formed terms (R78, R79) -/

theorem test_wf_refuses_l3other_ipv4 : (Instr.l3other 0x0800#16).wf = false := by decide

theorem test_wf_refuses_l3other_ipv6 : (Instr.l3other 0x86DD#16).wf = false := by decide

theorem test_wf_refuses_l4other_icmp : (Instr.l4other 1#8).wf = false := by decide

theorem test_wf_refuses_l4other_tcp : (Instr.l4other 6#8).wf = false := by decide

theorem test_wf_refuses_l4other_udp : (Instr.l4other 17#8).wf = false := by decide

theorem test_wf_accepts_arp_and_gre : (Instr.l3other 0x0806#16).wf = true ∧ (Instr.l4other 47#8).wf = true := by decide

/-! ## Decoding, from the tables of R78 and R79, one word for each constructor -/

theorem test_decode_decode : decodeBytes .composite [] = .ok .decode := by decide

theorem test_decode_eth : decodeBytes .layer2 [] = .ok .eth := by decide

theorem test_decode_ipv4 : decodeBytes .layer3 [0x08#8, 0x00#8] = .ok .ipv4 := by decide

theorem test_decode_ipv6 : decodeBytes .layer3 [0x86#8, 0xDD#8] = .ok .ipv6 := by decide

/-- E7: ethertype bytes in the wrong order are not IPv4. -/
theorem test_decode_l3other : decodeBytes .layer3 [0x00#8, 0x08#8] = .ok (.l3other 0x0008#16) := by decide

theorem test_decode_icmp : decodeBytes .layer4 [0x01#8] = .ok .icmp := by decide

theorem test_decode_tcp : decodeBytes .layer4 [0x06#8] = .ok .tcp := by decide

theorem test_decode_udp : decodeBytes .layer4 [0x11#8] = .ok .udp := by decide

/-- J1: 58 (ICMPv6) is not ICMP. -/
theorem test_decode_l4other : decodeBytes .layer4 [0x3A#8] = .ok (.l4other 58#8) := by decide

theorem test_decode_rejects_by_name :
    decodeBytes .layer3 [0x08#8] = .error .selectorTooShort ∧
    decodeBytes .layer4 [0x01#8, 0x02#8] = .error .selectorTooLong ∧
    decodeBytes .layer2 [0x00#8] = .error .selectorUnexpected := by decide

theorem test_table_words :
    decodeTableWord 16 0x0800 = some .ipv4 ∧ decodeTableWord 16 0x86DD = some .ipv6 ∧
    decodeTableWord 16 0x0806 = some (.l3other 0x0806#16) ∧ decodeTableWord 8 1 = some .icmp ∧
    decodeTableWord 8 6 = some .tcp ∧ decodeTableWord 8 17 = some .udp ∧
    decodeTableWord 8 47 = some (.l4other 47#8) ∧ decodeTableWord 0 0 = some .decode := by decide

theorem test_placed_words :
    (State.reset.withFetchWord 16 0x86DD).fetch = .instr .ipv6 ∧
    (State.reset.withFetchWord 8 17).fetch = .instr .udp ∧
    (State.reset.withFetchWord 0 0).fetch = .instr .decode := by decide

/-! ## One step each -/

/-- E2: 13 bytes are one short. -/
theorem test_eth_drops_13 : (nextOr (exec .eth (loaded (bytes (m1 ++ [0x08]))))).status = 0x0003#16 := by decide

/-- E4: exactly 14 bytes are accepted. -/
theorem test_eth_accepts_14 :
    (nextOr (exec .eth (loaded e4))).regs.ethSrc = some 0xDEADBEEF0001#48 ∧
    (nextOr (exec .eth (loaded e4))).regs.ethType = some 0x88CC#16 := by decide

/-- P3, step 2: options move the cursor to 38. -/
theorem test_ipv4_options :
    (nextOr (exec .ipv4 (loadedAt p3 14))).regs.ip4Hlen = some 24#6 ∧
    (nextOr (exec .ipv4 (loadedAt p3 14))).pc = 38 ∧
    (nextOr (exec .ipv4 (loadedAt p3 14))).regs.ip4Src = some 0xAC10FE01#32 := by decide

/-- I5: a declared length of 60 over 24 bytes is a layer-3 truncation. -/
theorem test_ipv4_truncated :
    (nextOr (exec .ipv4 (loadedAt i5 14))).status = 0x0081#16 ∧
    (nextOr (exec .ipv4 (loadedAt i5 14))).regs.payLen = some 24 := by decide

/-- J3, P2: the 4 + 8 + 20 bit split of the first word. -/
theorem test_ipv6_first_word :
    (nextOr (exec .ipv6 (loadedAt p2 14))).regs.ipVer = some 6#4 ∧
    (nextOr (exec .ipv6 (loadedAt p2 14))).regs.ip6Tc = some 0xAB#8 ∧
    (nextOr (exec .ipv6 (loadedAt p2 14))).regs.ip6Flow = some 0x12345#20 := by decide

/-- P2: the destination address and the cursor. -/
theorem test_ipv6_address :
    (nextOr (exec .ipv6 (loadedAt p2 14))).regs.ip6Dst = some 0xFE8000000000000002005EFFFE000253#128 ∧
    (nextOr (exec .ipv6 (loadedAt p2 14))).pc = 54 := by decide

/-- E4: an empty payload is no error. -/
theorem test_l3other_empty :
    (decoded e4).status = 0x000D#16 ∧ (decoded e4).regs.payOff = some 14 ∧ (decoded e4).regs.payLen = some 0 := by
  decide

/-- P3, step 3. -/
theorem test_icmp :
    (nextOr (exec .icmp (loadedAt p3 38))).regs.icmpCsum = some 0xF7FF#16 ∧
    (nextOr (exec .icmp (loadedAt p3 38))).regs.payOff = some 42 ∧
    (nextOr (exec .icmp (loadedAt p3 38))).regs.payLen = some 6 := by decide

/-- T1: 3 of 4 bytes. -/
theorem test_icmp_truncated :
    (decoded (bytes (over4 1 ++ [0x03, 0x01, 0x00]))).status = 0x1505#16 := by decide

/-- T4: exactly 14 bytes, data offset 3. -/
theorem test_tcp_offset_three :
    (decoded (bytes (over4 6 ++ [0x00, 0x50, 0x04, 0x01, 0, 0, 0, 1, 0, 0, 0, 0, 0x30, 0x01]))).regs.payOff = some 46 ∧
    (decoded (bytes (over4 6 ++ [0x00, 0x50, 0x04, 0x01, 0, 0, 0, 1, 0, 0, 0, 0, 0x30, 0x01]))).regs.tcpFlags
      = some 0x01#6 := by decide

/-- T6: the data offset runs over; bits 11:6 reach no register. -/
theorem test_tcp_overrun :
    (decoded (bytes (over4 6 ++ [0x00, 0x50, 0x04, 0x01, 0, 0, 0, 1, 0, 0, 0, 0, 0xF0, 0x3F]
      ++ [0x72, 0x10, 0, 0, 0, 0]))).status = 0x0A25#16 ∧
    (decoded (bytes (over4 6 ++ [0x00, 0x50, 0x04, 0x01, 0, 0, 0, 1, 0, 0, 0, 0, 0xF0, 0x3F]
      ++ [0x72, 0x10, 0, 0, 0, 0]))).regs.tcpHlen = some 60#6 := by decide

/-- T11: a declared length beyond the frame is recorded, not used. -/
theorem test_udp_length_not_used :
    (decoded (bytes (over4 17 ++ [0x00, 0x35, 0x00, 0x35, 0xFF, 0xFF, 0x12, 0x34, 0xAA]))).regs.payLen = some 1 ∧
    (decoded (bytes (over4 17 ++ [0x00, 0x35, 0x00, 0x35, 0xFF, 0xFF, 0x12, 0x34, 0xAA]))).regs.udpLen
      = some 0xFFFF#16 := by decide

/-- J6: UDP over IPv6 with 7 of 8 bytes. -/
theorem test_udp_truncated_v6 :
    (decoded (bytes (over6 17 ++ [0x00, 0x35, 0x00, 0x35, 0x00, 0x07, 0x00]))).status = 0x1909#16 := by decide

/-- T13: the highest protocol number. -/
theorem test_l4other :
    (decoded (bytes (over4 255 ++ [0xDE, 0xAD]))).status = 0x1045#16 ∧
    (decoded (bytes (over4 255 ++ [0xDE, 0xAD]))).regs.payOff = some 34 := by decide

/-- P1, the whole program. -/
theorem test_decode_p1 :
    (decoded p1).status = 0x0825#16 ∧ (decoded p1).regs.tcpFlags = some 0x12#6 ∧
    (decoded p1).payload = some (bytes [0xCA, 0xFE, 0xF0, 0x0D]) := by decide

/-- P2, the whole program. -/
theorem test_decode_p2 :
    (decoded p2).status = 0x0C39#16 ∧ (decoded p2).regs.udpSport = some 5353#16 ∧
    (decoded p2).payload = some (bytes [1, 2, 3, 4]) := by decide

/-! ## Text forms and the record (R84, R85, R87, R158) -/

theorem test_mac_text : macText 0xDEADBEEF0001#48 = "DE:AD:BE:EF:00:01".toList := by decide

theorem test_ipv4_text : ipv4Text 0xC0A80001#32 = "192.168.0.1".toList := by decide

theorem test_label_text_47 : Label.protoNum.text (some 47#8) = some "47".toList := by decide

/-- P1, the host's record. -/
theorem test_record_p1 :
    (decoded p1).decoded.map (fun d => (d.srcMac, d.label, d.length)) =
      some ("DE:AD:BE:EF:00:01".toList, "TCP".toList, 58) := by decide

/-- As E5: the record of a frame that is neither IPv4 nor IPv6 keeps its ethertype. -/
theorem test_record_ethertype :
    (decoded (bytes (m1 ++ [0x08, 0x06, 0x00, 0x01]))).decoded.map (fun d => (d.ethertype, d.ip, d.transport)) =
      some (0x0806#16, .other, .none) := by decide

/-- S7: a frame of 10 bytes makes no record. -/
theorem test_no_record_e3 : (decoded e3).decoded = none := by decide

/-! ## Witnesses: for each statement with hypotheses, a state and operands that meet them; one per clause -/

/-- SubmitHandsOverTheFrame: an empty frame, and one of FLEN_MAX bytes, at the width of R6 and at the smallest. -/
theorem test_hyp_submit : State.reset.busy = false ∧ ([] : List Byte).length < 2 ^ 16 ∧
    (List.replicate 65535 (0#8 : Byte)).length < 2 ^ 16 ∧ (List.replicate 255 (0#8 : Byte)).length < 2 ^ 8 := by
  refine ⟨by decide, by decide, ?_, ?_⟩ <;> rw [List.length_replicate] <;> decide

/-- SubmitStopsOutsideItsDomain: busy, and the first length above FLEN_MAX. -/
theorem test_hyp_submit_stops : (loaded e3).busy = true ∧ State.reset.busy = false ∧ 2 ^ 16 ≤ 65536 := by decide

/-- R6: FLEN_MAX is 65535 at the width the spec gives. -/
theorem test_flen_max : Config.flenMax Config.flenBits = 65535 := by decide

/-- MemReadIsBigEndian, WideReadIsItsParts: a read that ends with the frame, and one byte further. -/
theorem test_hyp_reads : 0 + 10 ≤ (loaded e3).flen ∧ (loaded e3).flen < 1 + 10 ∧
    4 + (2 + 4) ≤ (loaded e3).flen := by decide

/-- R51, by hand: bytes 2 to 4 of E3 are 0x223344. -/
theorem test_mem_read : (loaded e3).memRead 2 3 = some 0x223344 ∧ (loaded e3).memRead 8 3 = none := by decide

/-- OperationsNeverWriteTheFrame, LayerOperationsLeaveTheRest. -/
theorem test_hyp_layer_operation : Instr.tcp ≠ .decode ∧ ∃ t, exec .tcp (loadedAt p1 34) = .next t :=
  ⟨by decide, _, rfl⟩

/-- SubmittedFrameIsCanonical: the length of the bytes, one less, and one more. -/
theorem test_hyp_canonical : (∃ t, State.reset.submit Config.flenBits e3 10 = .next t) ∧ (∃ t, State.reset.submit Config.flenBits e3 9 = .next t) ∧
    ∃ t, State.reset.submit Config.flenBits e3 11 = .next t := ⟨⟨_, rfl⟩, ⟨_, rfl⟩, ⟨_, rfl⟩⟩

/-- DecodeOfEncodeGivesTheOperation, EncodeOfDecodeGivesTheSelector: the values next to the named ones. -/
theorem test_hyp_encoding : (Instr.l3other 0x07FF#16).wf = true ∧ (Instr.l3other 0x86DE#16).wf = true ∧
    (Instr.l4other 0#8).wf = true ∧ (Instr.l4other 255#8).wf = true ∧
    decodeBytes .layer3 [0x08#8, 0x01#8] = .ok (.l3other 0x0801#16) ∧
    decodeBytes .layer4 [18#8] = .ok (.l4other 18#8) := by decide

/-- EthernetAndIpHeadersReadBack, ETH, against the bytes of P1. -/
theorem test_hyp_eth_header : 0 + 14 ≤ (loaded p1).flen ∧
    (loaded p1).Holds 0 (EthHeader.bytes ⟨0x001122AABBCC#48, 0xDEADBEEF0001#48, 0x0800#16⟩) := by
  unfold State.Holds
  decide

/-- EthernetAndIpHeadersReadBack, IP4, against the bytes of P1. -/
theorem test_hyp_ip4_header : (20#6).toNat % 4 = 0 ∧ 14 + 20 ≤ (loaded p1).flen ∧
    (loaded p1).Holds 14 (Ip4Header.bytes ⟨4#4, 20#6, 64#8, 6#8, 0xC0A80001#32, 0x0A0000FE#32⟩
      0x00002C1C464000#56 0x0000#16) := by
  unfold State.Holds
  decide

/-- EthernetAndIpHeadersReadBack, IP6, against the bytes of P2. -/
theorem test_hyp_ip6_header : 14 + 40 ≤ (loaded p2).flen ∧
    (loaded p2).Holds 14 (Ip6Header.bytes ⟨6#4, 0xAB#8, 0x12345#20, 12#16, 17#8, 64#8,
      0x20010DB8000000000000000000000001#128, 0xFE8000000000000002005EFFFE000253#128⟩) := by
  unfold State.Holds
  decide

/-- TransportHeadersReadBack, ICMP, against the bytes of P3. -/
theorem test_hyp_icmp_header : 38 + 4 ≤ (loaded p3).flen ∧
    (loaded p3).Holds 38 (IcmpHeader.bytes ⟨8#8, 0#8, 0xF7FF#16⟩) := by
  unfold State.Holds
  decide

/-- TransportHeadersReadBack, TCP, against the bytes of P1. -/
theorem test_hyp_tcp_header : (20#6).toNat % 4 = 0 ∧ 34 + 14 ≤ (loaded p1).flen ∧
    (loaded p1).Holds 34 (TcpHeader.bytes ⟨443#16, 51514#16, 0x01020304#32, 0xA0B0C0D0#32, 20#6, 0x12#6⟩ 0#6) := by
  unfold State.Holds
  decide

/-- TransportHeadersReadBack, UDP, against the bytes of P2. -/
theorem test_hyp_udp_header : 54 + 8 ≤ (loaded p2).flen ∧
    (loaded p2).Holds 54 (UdpHeader.bytes ⟨5353#16, 53#16, 12#16, 0xBEEF#16⟩) := by
  unfold State.Holds
  decide

/-- StepRunsTheSelectedOperation: every position, with a selector where there is one. -/
theorem test_hyp_step : State.reset.phase = .idle ∧ (loaded p1).phase = .submitted ∧
    (loaded p1).beginDecode.phase = .layer2 ∧
    (State.reset.withFetchWord 16 0x0800).phase = .layer3 ∧
    (State.reset.withFetchWord 16 0x0800).regs.ethType = some 0x0800#16 ∧
    (State.reset.withFetchWord 8 6).phase = .layer4 ∧ (State.reset.withFetchWord 8 6).regs.ipProto = some 6#8 ∧
    (State.reset.goto .finish).phase = .finish := by decide

/-- EthDecodesOrDrops, ShortFrameIsDropped, PayloadViewIsASuffixOfTheFrame, DecodeFollowsTheOutcomeTables: 14 and 13. -/
theorem test_hyp_eth : 14 ≤ (loaded e4).flen ∧ (loaded e4).flen = 14 ∧
    (loaded (bytes (m1 ++ [0x08]))).flen < 14 := by decide

/-- Ipv4DecodesTheHeader, at `n = hlen = 20` (I2). -/
theorem test_hyp_ipv4 : ∃ (s : State) (a n hlen : Nat) (b0 : Byte), a = s.pc ∧ n = s.flen - a ∧
    b0 = s.frameByte a ∧ hlen = 4 * (b0.extractLsb' 0 4).toNat ∧ 20 ≤ n ∧ hlen ≤ n ∧ n = 20 ∧ hlen = 20 :=
  ⟨loadedAt (bytes (over4 6)) 14, 14, 20, 20, 0x45#8, by decide⟩

/-- Ipv6DecodesTheHeader, at `n = 40`. -/
theorem test_hyp_ipv6 : ∃ (s : State) (a : Nat) (w : BitVec 32), a = s.pc ∧ w = s.wordAt 32 a ∧
    40 ≤ s.flen - a ∧ s.flen - a = 40 :=
  ⟨loadedAt (bytes (over6 58)) 14, 14, 0x60000000#32, by decide⟩

/-- Ipv4DecodesTheHeader, Ipv6DecodesTheHeader, TruncationCausesAreComplete: each of the three IPv4 checks, and 39 bytes
of IPv6 (E8, I5, I3, J2). -/
theorem test_hyp_ip_truncation :
    ((loadedAt (bytes (m1 ++ [0x08, 0x00])) 14).flen - 14 < 1) ∧
    ((loadedAt i5 14).flen - 14 < 4 * (((loadedAt i5 14).frameByte 14).extractLsb' 0 4).toNat) ∧
    ((loadedAt (bytes ((over4 6).take 33)) 14).flen - 14 < 20) ∧
    ((loadedAt (bytes ((over6 6).take 53)) 14).flen - 14 < 40) := by decide

/-- IcmpDecodesTheHeader, both clauses, at 4 and at 3 bytes. -/
theorem test_hyp_icmp :
    4 = (loadedAt (bytes (over4 1 ++ [3, 1, 0xFC, 0xFE])) 34).flen - 34 ∧
    (loadedAt (bytes (over4 1 ++ [3, 1, 0xFC])) 34).flen - 34 < 4 := by decide

/-- TcpDecodesTheHeader, both clauses, and TcpFlagsAreTheLowBitsOfByte13, at 14 and at 13 bytes; an offset that runs over,
and one that does not. -/
theorem test_hyp_tcp :
    14 = (loadedAt (bytes (over4 6 ++ List.replicate 12 0 ++ [0x40, 0x01])) 34).flen - 34 ∧
    14 < 4 * (((loadedAt (bytes (over4 6 ++ List.replicate 12 0 ++ [0x40, 0x01])) 34).wordAt 16 46).extractLsb' 12 4).toNat ∧
    ¬ 14 < 4 * (((loadedAt (bytes (over4 6 ++ List.replicate 12 0 ++ [0x30, 0x01])) 34).wordAt 16 46).extractLsb' 12 4).toNat ∧
    (loadedAt (bytes (over4 6 ++ List.replicate 13 0)) 34).flen - 34 < 14 := by decide

/-- UdpDecodesTheHeader, both clauses, at 8 and at 7 bytes. -/
theorem test_hyp_udp :
    8 = (loadedAt (bytes (over4 17 ++ List.replicate 8 0)) 34).flen - 34 ∧
    (loadedAt (bytes (over4 17 ++ List.replicate 7 0)) 34).flen - 34 < 8 := by decide

/-- CursorArithmeticIsExact, Ip6FirstWordSplitsAcrossBytes: the longest IPv4 header, and IPv6. -/
theorem test_hyp_cursor :
    4 * (((loadedAt (bytes (m1 ++ [8, 0, 0x4F] ++ List.replicate 59 0)) 14).frameByte 14).extractLsb' 0 4).toNat = 60 ∧
    (loadedAt (bytes (m1 ++ [8, 0, 0x4F] ++ List.replicate 59 0)) 14).flen - 14 = 60 ∧
    40 ≤ (loadedAt p2 14).flen - (loadedAt p2 14).pc := by decide

/-- OperationsReadOnlyTheirFootprint: another type-of-service byte, which IPV4 never reads. -/
theorem test_hyp_footprint :
    (∀ a ∈ Instr.ipv4.footprint (loadedAt p1 14).pc, a < (loadedAt p1 14).flen →
      ({ loadedAt p1 14 with frame := Memory.ofBytes 0 (p1.set 15 0xFF#8), epoch := 7 } : State).frameByte a
        = (loadedAt p1 14).frameByte a) ∧
    ∃ t, exec .ipv4 (loadedAt p1 14) = .next t := ⟨by decide, _, rfl⟩

/-- DecodeLeavesTheFieldsOfTheFrame: a frame for each kind (P1, P2, P3). -/
theorem test_hyp_kinds :
    (decoded p1).status.isL3 .v4 = true ∧ (decoded p1).status.isL4 .tcp = true ∧
    (decoded p2).status.isL3 .v6 = true ∧ (decoded p2).status.isL4 .udp = true ∧
    (decoded p3).status.isL4 .icmp = true := by decide

/-- TruncationKeepsCompletedLayersOnly: a layer-3 truncation (I5) and a layer-4 one over each IP (T9, J6). -/
theorem test_hyp_truncation :
    (decoded i5).status.isTrunc .l3 = true ∧
    (decoded (bytes (over4 17 ++ [0, 0x35, 0, 0x35, 0]))).status.isTrunc .l4 = true ∧
    (decoded (bytes (over6 17 ++ [0, 0x35, 0, 0x35, 0, 7, 0]))).status.isTrunc .l4 = true := by decide

/-- ShortCircuitAfterL3Other: an OTHER at layer 3 (E4), and a layer-4 kind that is not NONE (P1). -/
theorem test_hyp_short_circuit : (decoded e4).status.isL3 .other = true ∧ (decoded p1).status.isL4 .none = false := by
  decide

/-- KindsAgreeWithSelectors: the clauses not met by the frames of the two witnesses above: an offset that runs over. -/
theorem test_hyp_overrun :
    (decoded (bytes (over4 6 ++ List.replicate 12 0 ++ [0x40, 0x01]))).status.doffOvr = true := by decide

/-- DecodeDependsOnTheFrameAlone: two frames of 89 bytes that differ at offset 88, one of them decoded before. -/
theorem test_hyp_frame_alone :
    (loaded (List.replicate 88 0#8 ++ [0x00#8])).flen = (decoded (List.replicate 88 0#8 ++ [0xFF#8])).flen ∧
    ∀ a < 88, a < (loaded (List.replicate 88 0#8 ++ [0x00#8])).flen →
      (loaded (List.replicate 88 0#8 ++ [0x00#8])).frameByte a =
        (decoded (List.replicate 88 0#8 ++ [0xFF#8])).frameByte a := by decide

/-- MacTextIsFaithful, second clause. -/
theorem test_hyp_mac : macText 0x0A0B0C0D0E0F#48 = macText 0x0A0B0C0D0E0F#48 := rfl

/-! ### States that meet the invariant, one for each position -/

/-- The Ethernet header of P1. -/
def p1Eth : EthHeader := ⟨0x001122AABBCC#48, 0xDEADBEEF0001#48, 0x0800#16⟩

/-- The IPv4 header of P1. -/
def p1Ip4 : Ip4Header := ⟨4#4, 20#6, 64#8, 6#8, 0xC0A80001#32, 0x0A0000FE#32⟩

/-- The Ethernet header of P2. -/
def p2Eth : EthHeader := ⟨0x333300000001#48, 0x02005E000253#48, 0x86DD#16⟩

/-- The IPv6 header of P2. -/
def p2Ip6 : Ip6Header := ⟨6#4, 0xAB#8, 0x12345#20, 12#16, 17#8, 64#8,
  0x20010DB8000000000000000000000001#128, 0xFE8000000000000002005EFFFE000253#128⟩

/-- The next state of a step. -/
def after (s : State) : State := nextOr (step s)

theorem test_inv_reset : State.reset.Inv := ⟨by decide, by decide, .inl rfl, .inl ⟨rfl, rfl⟩⟩

theorem test_inv_submitted : (loaded p1).Inv := ⟨by decide, by decide, .inl rfl, ⟨rfl, rfl⟩⟩

theorem test_inv_layer2 : (loaded p1).beginDecode.Inv := ⟨by decide, by decide, .inl rfl, ⟨rfl, rfl, rfl⟩⟩

theorem test_inv_layer3 : (after (loaded p1).beginDecode).Inv ∧ (after (loaded p1).beginDecode).phase = .layer3 :=
  ⟨⟨by decide, by decide, .inr ⟨0, by decide⟩, ⟨by decide, by decide, by decide, p1Eth, by decide⟩⟩, by decide⟩

theorem test_inv_layer4_v4 : (after (after (loaded p1).beginDecode)).Inv ∧
    (after (after (loaded p1).beginDecode)).phase = .layer4 :=
  ⟨⟨by decide, by decide, .inr ⟨5, by decide⟩,
    ⟨by decide, p1Eth, .inl ⟨by decide, by decide, by decide, p1Ip4, by decide, by decide⟩⟩⟩, by decide⟩

theorem test_inv_layer4_v6 : (after (after (loaded p2).beginDecode)).Inv ∧
    (after (after (loaded p2).beginDecode)).phase = .layer4 :=
  ⟨⟨by decide, by decide, .inr ⟨10, by decide⟩,
    ⟨by decide, p2Eth, .inr ⟨by decide, by decide, by decide, p2Ip6, by decide⟩⟩⟩, by decide⟩

/-- What P1 leaves is described by STATUS 0x0825. -/
theorem test_describes_p1 : (decoded p1).Describes 0x0825#16 where
  status_mem := by decide
  frameLen_eq := by decide
  holds_iff := by intro r; cases r <;> decide
  drop_iff := by decide
  view := fun _ => ⟨54, 4, by decide⟩
  v4 := by decide
  v6 := by decide
  other := by decide
  icmp := by decide
  tcp := by decide
  udp := by decide
  overrun := by decide

/-- What E3 leaves is described by STATUS 0x0003. -/
theorem test_describes_e3 : (decoded e3).Describes 0x0003#16 where
  status_mem := by decide
  frameLen_eq := by decide
  holds_iff := by intro r; cases r <;> decide
  drop_iff := by decide
  view := by intro h; exact absurd h (by decide)
  v4 := by decide
  v6 := by decide
  other := by decide
  icmp := by decide
  tcp := by decide
  udp := by decide
  overrun := by decide

/-- The state before DECODE's last line. -/
def p1Finish : State := { decoded p1 with status := 0x0824#16, phase := .finish }

theorem test_inv_finish : p1Finish.Inv ∧ p1Finish.phase = .finish :=
  have d := test_describes_p1
  ⟨⟨by decide, by decide, .inr ⟨5, by decide⟩, ⟨by decide, d.status_mem, d.frameLen_eq, d.holds_iff, d.drop_iff, d.view,
    d.v4, d.v6, d.other, d.icmp, d.tcp, d.udp, d.overrun⟩⟩, rfl⟩

theorem test_inv_done : (decoded p1).Inv ∧ (decoded p1).status.done = true :=
  ⟨⟨by decide, by decide, .inr ⟨5, by decide⟩, .inr test_describes_p1⟩, by decide⟩

theorem test_inv_dropped : (decoded e3).Inv ∧ (decoded e3).status.done = true :=
  ⟨⟨by decide, by decide, .inl (by decide), .inr test_describes_e3⟩, by decide⟩

/-- EveryStepKeepsTheInvariant: from each of these states a step answers a next state. -/
theorem test_hyp_step_next : (∃ t, step State.reset = .next t) ∧ (∃ t, step (loaded p1) = .next t) ∧
    (∃ t, step (loaded p1).beginDecode = .next t) ∧ (∃ t, step (after (loaded p1).beginDecode) = .next t) ∧
    (∃ t, step (after (after (loaded p1).beginDecode)) = .next t) ∧ ∃ t, step p1Finish = .next t :=
  ⟨⟨_, rfl⟩, ⟨_, rfl⟩, ⟨_, rfl⟩, ⟨_, rfl⟩, ⟨_, rfl⟩, ⟨_, rfl⟩⟩

/-- ResultsFitAtEveryWidth: a submitted frame fits the smallest width. -/
theorem test_fits_submitted : 8 ≤ 8 ∧ (loaded p1).Fits 8 := by
  have e : (loaded p1).regs = Regs.empty := by decide
  refine ⟨by decide, by decide, by decide, fun r v h => ?_⟩
  rw [e] at h
  cases r <;> cases h

/-- HostActionsKeepTheInvariant: a submit from reset, and a submitted frame. -/
theorem test_hyp_host_actions : (∃ t, State.reset.submit Config.flenBits p1 58 = .next t) ∧ (loaded p1).phase = .submitted :=
  ⟨⟨_, rfl⟩, rfl⟩

/-! ### Sessions -/

/-- A session that runs, at the top of its loop. -/
def running : Session := Session.initial.start.1

theorem test_inv_running : running.Inv ∧ running.running = true ∧ running.loop = .top := by
  refine ⟨⟨?_, test_inv_reset, ?_⟩, rfl, rfl⟩
  · intro i r h
    exact absurd h (by simp [running, Session.initial, Session.start])
  · simp [running, Session.initial, Session.start]
    decide

/-- The session after its loop has taken P1, at time 1000. -/
def afterP1 : Session := (running.loopMove Config.flenBits (some ⟨p1, 1000⟩)).loopMove Config.flenBits none

/-- StartAndStopAreIdempotent: both values of the running flag. -/
theorem test_hyp_start_stop : running.running = true ∧ Session.initial.running = false := by decide

/-- DroppedFrameMakesNoRecord, EveryOtherFrameMakesOneRecord: frames of 13, 14 and FLEN_MAX bytes. -/
theorem test_hyp_records : (List.replicate 13 (0#8 : Byte)).length < 14 ∧ e4.length = 14 ∧
    (List.replicate 65535 (0#8 : Byte)).length < 2 ^ 16 := by
  refine ⟨by decide, by decide, ?_⟩
  rw [List.length_replicate]
  decide

/-- EveryOtherFrameMakesOneRecord, last clauses: the addresses and the ethertype of P1; and both kinds of buffer. -/
theorem test_hyp_record_fields : bytesBE 6 (0x001122AABBCC#48 : Mac).toNat = p1.take 6 ∧
    bytesBE 6 (0xDEADBEEF0001#48 : Mac).toNat = (p1.drop 6).take 6 ∧
    bytesBE 2 (0x0800#16).toNat = (p1.drop 12).take 2 ∧ running.buffer = [] ∧
    (afterP1.buffer[0]?.map PacketRecord.captured) = some 1000 := by decide

/-- A session stopped while a decode is in flight. -/
def stopping (f : RawFrame) : Session := (running.loopMove Config.flenBits (some f)).stop.1

/-- StoppedLoopHaltsAfterItsDecode: stopped at the top, and stopped with a decode in flight, of a frame that is dropped
and of one that is not. -/
theorem test_hyp_stopped :
    running.stop.1.running = false ∧ running.stop.1.loop = .top ∧
    (stopping ⟨p1, 0⟩).running = false ∧ (stopping ⟨p1, 0⟩).loop = .decoding ⟨p1, 0⟩ ∧
    (stopping ⟨p1, 0⟩).block.phase = .submitted ∧ (decoded p1).status.drop = false ∧
    (stopping ⟨e3, 0⟩).block.phase = .submitted ∧ (decoded e3).status.drop = true := by decide

/-- H1, steps 4 and 5: the first record has number 1 and relative time 0, and E3 makes none. The arrival time of P1 is
1000.250, written as 4001 / 4. -/
theorem test_session_first_record :
    ((running.loopMove Config.flenBits (some ⟨p1, .ofIntWithPrec 4001 2⟩)).loopMove Config.flenBits none).buffer.map
      (fun r => (r.number, r.relative, r.captured)) = [(1, 0, .ofIntWithPrec 4001 2)] ∧
    ((running.loopMove Config.flenBits (some ⟨e3, .ofIntWithPrec 10003 3⟩)).loopMove Config.flenBits none).buffer = [] := by
  decide

/-- H1, step 6: I5 at 1000.750 after P1 at 1000.250 has number 2 and relative time 0.5. -/
theorem test_session_second_record :
    ((((running.loopMove Config.flenBits (some ⟨p1, .ofIntWithPrec 4001 2⟩)).loopMove Config.flenBits none).loopMove
      Config.flenBits (some ⟨i5, .ofIntWithPrec 4003 2⟩)).loopMove Config.flenBits none).buffer.map
      (fun r => (r.number, r.relative)) = [(1, 0), (2, .ofIntWithPrec 1 1)] := by decide

end Sys2Proof.Tests
end

/-! Proofs for spec/00_scope.md: no offset, length or register outgrows its width (R6, R159), and a DECODE taken layer
by layer is the atomic DECODE (R5). -/

namespace Sys2Proof.Machine

/-! ## Every register fits its width (R6, R25, R159) -/

/-- Where a register kept as a word of `w` bits holds a value, that value is below `2 ^ w`. -/
theorem toNat_lt_of_map_eq_some {w v : Nat} {x : Option (BitVec w)} (h : x.map BitVec.toNat = some v) :
    v < 2 ^ w := by
  obtain ⟨b, -, rfl⟩ := Option.map_eq_some_iff.1 h
  exact b.isLt

/-- Only FLEN, the cursor and the three length registers depend on `FLEN_BITS`: every other register is a word of its
own width. -/
theorem State.fits_iff {flenBits : Nat} {s : State} :
    s.Fits flenBits ↔ s.flen < 2 ^ flenBits ∧ s.pc < 2 ^ flenBits ∧
      (∀ v, s.regs.frameLen = some v → v < 2 ^ flenBits) ∧ (∀ v, s.regs.payOff = some v → v < 2 ^ flenBits) ∧
      ∀ v, s.regs.payLen = some v → v < 2 ^ flenBits := by
  constructor
  · rintro ⟨hflen, hpc, hregs⟩
    exact ⟨hflen, hpc, hregs .frameLen, hregs .payOff, hregs .payLen⟩
  · rintro ⟨hflen, hpc, hframe, hoff, hlen⟩
    refine ⟨hflen, hpc, fun r v h => ?_⟩
    cases r with
    | frameLen => exact hframe v h
    | payOff => exact hoff v h
    | payLen => exact hlen v h
    | _ => exact toNat_lt_of_map_eq_some h

/-! ### The updates keep it -/

section
variable {flenBits : Nat} {s : State}

/-- A state without any register value fits where its FLEN and its cursor do. -/
theorem State.fits_of_regs_empty (hregs : s.regs = Regs.empty) (hflen : s.flen < 2 ^ flenBits)
    (hpc : s.pc < 2 ^ flenBits) : s.Fits flenBits :=
  ⟨hflen, hpc, fun r v h => by simp [hregs] at h⟩

theorem State.Fits.setStatus (h : s.Fits flenBits) (st : Status) : (s.setStatus st).Fits flenBits :=
  ⟨h.flen, h.pc, h.regs⟩

theorem State.Fits.goto (h : s.Fits flenBits) (p : Phase) : (s.goto p).Fits flenBits :=
  ⟨h.flen, h.pc, h.regs⟩

/-- The cursor stays in its width where it stays inside the frame. -/
theorem State.Fits.setPc (h : s.Fits flenBits) {v : Nat} (hv : v ≤ s.flen) : (s.setPc v).Fits flenBits :=
  ⟨h.flen, hv.trans_lt h.flen, h.regs⟩

/-- Register writes that leave the three length registers alone. -/
theorem State.Fits.setRegs (h : s.Fits flenBits) (r : Regs) (hframe : r.frameLen = s.regs.frameLen)
    (hoff : r.payOff = s.regs.payOff) (hlen : r.payLen = s.regs.payLen) : (s.setRegs r).Fits flenBits := by
  rw [State.fits_iff] at h ⊢
  simpa [hframe, hoff, hlen] using h

theorem State.Fits.setView (h : s.Fits flenBits) {off len : Nat} (hoff : off < 2 ^ flenBits)
    (hlen : len < 2 ^ flenBits) : (s.setView off len).Fits flenBits := by
  obtain ⟨hflen, hpc, hframe, -, -⟩ := State.fits_iff.1 h
  exact State.fits_iff.2 ⟨hflen, hpc, hframe, fun v e => Option.some.inj e ▸ hoff, fun v e => Option.some.inj e ▸ hlen⟩

/-- A payload view whose offset and length stay inside the frame. -/
theorem State.Fits.setView_inside (h : s.Fits flenBits) {off len : Nat} (hoff : off ≤ s.flen) (hlen : len ≤ s.flen) :
    (s.setView off len).Fits flenBits :=
  h.setView (hoff.trans_lt h.flen) (hlen.trans_lt h.flen)

/-! ### So do the entries and the last line of a DECODE -/

/-- What is left of the frame is at most the frame. -/
theorem State.remaining_le_flen (s : State) : s.remaining ≤ s.flen := Nat.sub_le _ _

theorem State.Fits.remaining_lt (h : s.Fits flenBits) : s.remaining < 2 ^ flenBits :=
  s.remaining_le_flen.trans_lt h.flen

theorem State.Fits.endByException (h : s.Fits flenBits) (st : Status) : (s.endByException st).Fits flenBits :=
  (h.setStatus _).goto _

theorem State.Fits.enterFrameTooShort (h : s.Fits flenBits) : s.enterFrameTooShort.Fits flenBits :=
  h.endByException _

/-- The view of a layer-3 truncation begins at 14, whatever FLEN is: here the width must hold 14. -/
theorem State.Fits.enterTruncatedL3 (h : s.Fits flenBits) (hw : 8 ≤ flenBits) : s.enterTruncatedL3.Fits flenBits := by
  have h14 : 2 ^ 8 ≤ 2 ^ flenBits := Nat.pow_le_pow_right (by decide) hw
  exact (h.setView (by omega) ((Nat.sub_le _ _).trans_lt h.flen)).endByException _

theorem State.Fits.enterTruncatedL4 (h : s.Fits flenBits) : s.enterTruncatedL4.Fits flenBits :=
  (h.setView h.pc h.remaining_lt).endByException _

theorem State.Fits.finishDecode (h : s.Fits flenBits) : s.finishDecode.Fits flenBits :=
  (h.setStatus _).goto _

theorem State.Fits.beginDecode (h : s.Fits flenBits) : s.beginDecode.Fits flenBits :=
  State.fits_iff.2 ⟨h.flen, Nat.two_pow_pos _, fun _ e => Option.some.inj e ▸ h.flen, nofun, nofun⟩

/-- TCP's view is inside the frame, or the empty one at its end (R133). -/
theorem State.Fits.tcpView (h : s.Fits flenBits) (hn : 0 < s.remaining) (off : Nat) :
    (s.tcpView off).Fits flenBits := by
  have hend := s.pc_add_remaining hn
  by_cases hoff : off ≤ s.remaining
  · rw [s.tcpView_fits off hoff]
    exact h.setView_inside (by omega) (by omega)
  · rw [s.tcpView_overrun off (by omega)]
    exact (h.setStatus _).setView_inside (Nat.le_refl _) (Nat.zero_le _)

/-! ### And the operations -/

/-- Every layer operation answers a state that fits. -/
theorem State.Fits.layer_next (h : s.Fits flenBits) (hw : 8 ≤ flenBits) (i : Instr) (hi : i ≠ .decode) :
    ∃ t, exec i s = .next t ∧ t.Fits flenBits := by
  have hend := s.pc_add_remaining
  cases i with
  | eth =>
    rcases execEth_cases s with ⟨-, e⟩ | ⟨hl, x, -, e⟩
    · exact ⟨_, e, h.enterFrameTooShort⟩
    · exact ⟨_, e, ((h.setRegs (s.regs.putEth x) rfl rfl rfl).setPc hl).goto _⟩
  | ipv4 =>
    rcases execIpv4_cases s with ⟨-, e⟩ | ⟨hn, hl, x, -, hx, e⟩
    · exact ⟨_, e, h.enterTruncatedL3 hw⟩
    · have hpc : s.pc + x.hlen.toNat ≤ s.flen := by rw [hx]; omega
      exact ⟨_, e, (((h.setRegs (s.regs.putIp4 x) rfl rfl rfl).setStatus _).setPc hpc).goto _⟩
  | ipv6 =>
    rcases execIpv6_cases s with ⟨-, e⟩ | ⟨hn, x, -, e⟩
    · exact ⟨_, e, h.enterTruncatedL3 hw⟩
    · have hpc : s.pc + 40 ≤ s.flen := by omega
      exact ⟨_, e, (((h.setRegs (s.regs.putIp6 x) rfl rfl rfl).setStatus _).setPc hpc).goto _⟩
  | l3other e => exact ⟨_, rfl, ((h.setView h.pc h.remaining_lt).setStatus _).goto _⟩
  | icmp =>
    rcases execIcmp_cases s with ⟨-, e⟩ | ⟨hn, x, -, e⟩
    · exact ⟨_, e, h.enterTruncatedL4⟩
    · have hoff : s.pc + 4 ≤ s.flen := by omega
      exact ⟨_, e, (((h.setRegs (s.regs.putIcmp x) rfl rfl rfl).setStatus _).setView_inside hoff
        ((Nat.sub_le _ _).trans s.remaining_le_flen)).goto _⟩
  | tcp =>
    rcases execTcp_cases s with ⟨-, e⟩ | ⟨hn, x, -, e⟩
    · exact ⟨_, e, h.enterTruncatedL4⟩
    · have hpos : 0 < s.remaining := by omega
      exact ⟨_, e, (((h.setRegs (s.regs.putTcp x) rfl rfl rfl).setStatus _).tcpView hpos _).goto _⟩
  | udp =>
    rcases execUdp_cases s with ⟨-, e⟩ | ⟨hn, x, -, e⟩
    · exact ⟨_, e, h.enterTruncatedL4⟩
    · have hoff : s.pc + 8 ≤ s.flen := by omega
      exact ⟨_, e, (((h.setRegs (s.regs.putUdp x) rfl rfl rfl).setStatus _).setView_inside hoff
        ((Nat.sub_le _ _).trans s.remaining_le_flen)).goto _⟩
  | l4other p => exact ⟨_, rfl, ((h.setView h.pc h.remaining_lt).setStatus _).goto _⟩
  | decode => exact absurd rfl hi

variable {t : State}

theorem State.Fits.exec_layer (h : s.Fits flenBits) (hw : 8 ≤ flenBits) {i : Instr} (hi : i ≠ .decode)
    (hx : exec i s = .next t) : t.Fits flenBits := by
  obtain ⟨u, hu, hfit⟩ := h.layer_next hw i hi
  cases hx.symm.trans hu
  exact hfit

/-- A DECODE is a chain of layer operations from the begun state (R150), and each of them keeps it. -/
theorem State.Fits.execDecode (h : s.Fits flenBits) (hw : 8 ≤ flenBits) (hx : execDecode s = .next t) :
    t.Fits flenBits := by
  obtain ⟨s1, h1, hend⟩ := execDecode_inv hx
  have f1 := h.beginDecode.exec_layer hw (by decide) h1
  rcases hend with ⟨-, rfl, -⟩ | ⟨x, s2, -, -, -, h2, hend⟩
  · exact f1
  · have f2 := f1.exec_layer hw (decodeEthertype_ne_decode _) h2
    rcases hend with ⟨rfl, -⟩ | ⟨-, rfl⟩ | ⟨p, s3, -, -, -, h3, hend⟩
    · exact f2
    · exact f2.finishDecode
    · have f3 := f2.exec_layer hw (decodeProtocol_ne_decode _) h3
      rcases hend with ⟨rfl, -⟩ | ⟨-, rfl⟩
      · exact f3
      · exact f3.finishDecode

theorem State.Fits.exec (h : s.Fits flenBits) (hw : 8 ≤ flenBits) {i : Instr} (hx : exec i s = .next t) :
    t.Fits flenBits := by
  by_cases hi : i = .decode
  · subst hi
    exact h.execDecode hw hx
  · exact h.exec_layer hw hi hx

/-- What a step that answers a next state did: nothing, the last line of DECODE, or one operation. -/
theorem step_next_cases (h : step s = .next t) :
    t = s ∨ t = s.finishDecode ∨ ∃ i, exec i s = .next t := by
  unfold step at h
  split at h
  · cases h
    exact .inl rfl
  · cases h
    exact .inr (.inl rfl)
  · exact .inr (.inr ⟨_, h⟩)
  · cases h

theorem State.Fits.step (h : s.Fits flenBits) (hw : 8 ≤ flenBits) (hx : step s = .next t) : t.Fits flenBits := by
  rcases step_next_cases hx with rfl | rfl | ⟨i, hi⟩
  · exact h
  · exact h.finishDecode
  · exact h.exec hw hi

theorem State.Fits.submit (h : s.Fits flenBits) {bytes : List Byte} {flen : Nat}
    (hx : s.submit flenBits bytes flen = .next t) : t.Fits flenBits := by
  obtain ⟨-, hlen, rfl⟩ := submit_next hx
  exact State.fits_of_regs_empty rfl hlen h.pc

theorem State.Fits.assertReset (h : s.Fits flenBits) : s.assertReset.Fits flenBits :=
  State.fits_of_regs_empty rfl h.flen (Nat.two_pow_pos _)

end

/-- Settles O60: only FLEN, the cursor and the three length registers can outgrow `FLEN_BITS`, and each value
written to them lies inside the frame, is the cursor, or is the 14 of a layer-3 truncation. -/
theorem resultsFitAtEveryWidth : Obligations.ResultsFitAtEveryWidth := by
  unfold Obligations.ResultsFitAtEveryWidth
  intro flenBits hw
  refine ⟨State.fits_of_regs_empty rfl (Nat.two_pow_pos _) (Nat.two_pow_pos _), fun s h => ?_⟩
  exact ⟨h.assertReset, fun _ _ _ hx => h.submit hx, fun _ _ hx => h.exec hw hx, fun _ hx => h.step hw hx⟩

/-! ## A DECODE taken layer by layer (R5): from each position, what the rest of the atomic DECODE gives -/

section
variable {s : State}

/-- Where an exception has ended the DECODE, every further step and every later line of the DECODE leave the state. -/
theorem run_ended (k : Nat) (f : State → Out) (h : s.status.done = true ∧ s.phase = .idle) :
    core.run k s = thenUnlessDone (.next s) f := by
  obtain ⟨hdone, hidle⟩ := h
  rw [thenUnlessDone_next, if_pos hdone]
  exact run_idle k s hidle

theorem thenUnlessDone_of_not_done (f : State → Out) (hd : s.status.done = false) :
    thenUnlessDone (.next s) f = f s := by
  simp [hd]

/-- At the last line, every further step but the first waits. -/
theorem run_finish (k : Nat) (hp : s.phase = .finish) : core.run (k + 1) s = .next s.finishDecode :=
  (run_succ k (step_finish s hp)).trans (run_idle k _ s.finishDecode_phase)

/-- From layer 4, two steps or more are layer-4 dispatch and the last line. -/
theorem run_layer4 (k : Nat) {p : BitVec 8} (hp : s.phase = .layer4) (hd : s.status.done = false)
    (hsel : s.regs.ipProto = some p) :
    core.run (k + 2) s = thenUnlessDone (l4Dispatch s) fun t => .next t.finishDecode := by
  obtain ⟨t, ht⟩ := layer_next (decodeProtocol p) s (decodeProtocol_ne_decode p)
  rw [run_succ _ ((step_layer4 s p hp hsel).trans ht), l4Dispatch_eq s p hsel, ht]
  rcases layer4_outcome ht with rfl | ⟨hpt, hdt⟩
  · exact run_ended _ _ (State.endByException_done _ _)
  · rw [thenUnlessDone_of_not_done _ (hdt.trans hd)]
    exact run_finish k hpt

/-- From layer 3, three steps or more are layer-3 dispatch and the lines of DECODE after it (R150, R151). -/
theorem run_layer3 (k : Nat) {e : BitVec 16} (hp : s.phase = .layer3) (hd : s.status.done = false)
    (hsel : s.regs.ethType = some e) :
    core.run (k + 3) s = thenUnlessDone (l3Dispatch s) afterLayer3 := by
  obtain ⟨t, ht⟩ := layer_next (decodeEthertype e) s (decodeEthertype_ne_decode e)
  rw [run_succ _ ((step_layer3 s e hp hsel).trans ht), l3Dispatch_eq s e hsel, ht]
  obtain ⟨hv4, hv6, hother⟩ := isL3_after_setL3 s.status
  rcases layer3_outcome ht with rfl | ⟨hpt, hst⟩ | ⟨hpt, hst, p, hproto⟩
  · exact run_ended _ _ (State.endByException_done _ _)
  · rw [thenUnlessDone_of_not_done _ (by simp [hst, hd]), afterLayer3, hst, hother]
    exact run_finish (k + 1) hpt
  · have hdt : t.status.done = false := by rcases hst with hst | hst <;> simp [hst, hd]
    have hip : (t.status.isL3 .v4 || t.status.isL3 .v6) = true := by
      rcases hst with hst | hst <;> rw [hst]
      · exact hv4
      · exact hv6
    rw [thenUnlessDone_of_not_done _ hdt, afterLayer3, if_pos hip]
    exact run_layer4 k hpt hdt hproto

/-- From the begun state, four steps or more are the whole of DECODE. -/
theorem run_beginDecode (k : Nat) (s : State) : core.run (k + 4) s.beginDecode = execDecode s := by
  obtain ⟨t, ht⟩ := layer_next .eth s.beginDecode (by decide)
  have heth : execEth s.beginDecode = .next t := ht
  rw [run_succ _ ((step_layer2 _ s.beginDecode_phase).trans ht), execDecode, heth]
  rcases eth_outcome ht with ⟨-, rfl⟩ | ⟨-, x, -, rfl⟩
  · exact run_ended _ _ (State.endByException_done _ _)
  · have hd : s.beginDecode.status.done = false := by rw [State.beginDecode_status]; decide
    rw [thenUnlessDone_of_not_done]
    · exact run_layer3 k rfl hd rfl
    · exact hd

end

/-- Settles O19: each position of a layered DECODE runs to what the rest of the atomic DECODE gives from there, and an
exception leaves the block waiting. -/
theorem layeredRunEqualsAtomicDecode : Obligations.LayeredRunEqualsAtomicDecode := by
  unfold Obligations.LayeredRunEqualsAtomicDecode
  exact run_beginDecode 0

end Sys2Proof.Machine

/-! Proofs for spec/10_state.md: the frame of each layer operation, the invariant of the block, the host's actions on it,
and what a DECODE leaves in STATUS, the result registers and the payload view. -/

namespace Sys2Proof.Machine

/-! ## What a state holds of the frame, and the headers that stand in it -/

/-- A word depends on its own bytes only. -/
theorem State.wordAt_congr {s t : State} {w a : Nat} (h : ∀ i < w / 8, t.frameByte (a + i) = s.frameByte (a + i)) :
    t.wordAt w a = s.wordAt w a := by
  rw [State.wordAt, State.bigEndian_congr t s a _ h, State.wordAt]

/-- A two-byte word is its bytes in frame order (R52). -/
theorem State.wordAt_16 (s : State) (a : Nat) : s.wordAt 16 a = s.frameByte a ++ s.frameByte (a + 1) := by
  apply BitVec.eq_of_toNat_eq
  have hlo : (s.frameByte (a + 1)).toNat < 2 ^ 8 := (s.frameByte (a + 1)).isLt
  have hhi : (s.frameByte a).toNat < 2 ^ 8 := (s.frameByte a).isLt
  rw [BitVec.toNat_append, ← Nat.shiftLeft_add_eq_or_of_lt hlo, Nat.shiftLeft_eq]
  simp [State.wordAt, State.bigEndian]
  omega

/-- The header of format ETH at `a`: what `readEth` gives where it lies inside the frame. -/
def State.ethHeader (s : State) (a : Nat) : EthHeader where
  dst := s.wordAt 48 a
  src := s.wordAt 48 (a + 6)
  etherType := s.wordAt 16 (a + 12)

/-- The header of format IP4 at `a`. -/
def State.ip4Header (s : State) (a : Nat) : Ip4Header where
  ver := (s.frameByte a).extractLsb' 4 4
  hlen := ip4HeaderLength (s.frameByte a)
  ttl := s.frameByte (a + 8)
  proto := s.frameByte (a + 9)
  src := s.wordAt 32 (a + 12)
  dst := s.wordAt 32 (a + 16)

/-- The header of format IP6 at `a`. -/
def State.ip6Header (s : State) (a : Nat) : Ip6Header where
  ver := (s.wordAt 32 a).extractLsb' 28 4
  tc := (s.wordAt 32 a).extractLsb' 20 8
  flow := (s.wordAt 32 a).extractLsb' 0 20
  plen := s.wordAt 16 (a + 4)
  proto := s.frameByte (a + 6)
  hlim := s.frameByte (a + 7)
  src := s.wordAt 128 (a + 8)
  dst := s.wordAt 128 (a + 24)

/-- The header of format ICMP at `a`. -/
def State.icmpHeader (s : State) (a : Nat) : IcmpHeader where
  type := s.frameByte a
  code := s.frameByte (a + 1)
  csum := s.wordAt 16 (a + 2)

/-- The header of format TCP at `a`. -/
def State.tcpHeader (s : State) (a : Nat) : TcpHeader where
  sport := s.wordAt 16 a
  dport := s.wordAt 16 (a + 2)
  seq := s.wordAt 32 (a + 4)
  ack := s.wordAt 32 (a + 8)
  hlen := wordsToBytes ((s.wordAt 16 (a + 12)).extractLsb' 12 4)
  flags := (s.wordAt 16 (a + 12)).extractLsb' 0 6

/-- The header of format UDP at `a`. -/
def State.udpHeader (s : State) (a : Nat) : UdpHeader where
  sport := s.wordAt 16 a
  dport := s.wordAt 16 (a + 2)
  len := s.wordAt 16 (a + 4)
  csum := s.wordAt 16 (a + 6)

/-! Each header depends on the bytes of its format only (R55). -/

section
variable {s t : State} {a : Nat}

/-- A word inside a header depends on the header's bytes only. -/
theorem State.wordAt_congr_at {n j w : Nat} (h : ∀ i < n, t.frameByte (a + i) = s.frameByte (a + i))
    (hj : j + w / 8 ≤ n) : t.wordAt w (a + j) = s.wordAt w (a + j) :=
  State.wordAt_congr fun i hi => by
    rw [Nat.add_assoc]
    exact h (j + i) (by omega)

theorem State.ethHeader_congr (h : ∀ i < 14, t.frameByte (a + i) = s.frameByte (a + i)) :
    t.ethHeader a = s.ethHeader a := by
  have hdst : t.wordAt 48 a = s.wordAt 48 a := State.wordAt_congr_at (j := 0) h (by decide)
  simp only [State.ethHeader, hdst, State.wordAt_congr_at (w := 48) (j := 6) h (by decide),
    State.wordAt_congr_at (w := 16) (j := 12) h (by decide)]

theorem State.ip4Header_congr
    (h : ∀ i < 20, i = 0 ∨ i = 8 ∨ i = 9 ∨ 12 ≤ i → t.frameByte (a + i) = s.frameByte (a + i)) :
    t.ip4Header a = s.ip4Header a := by
  have hw (j : Nat) (hj : 12 ≤ j ∧ j ≤ 16) : t.wordAt 32 (a + j) = s.wordAt 32 (a + j) :=
    State.wordAt_congr fun i hi => by
      rw [Nat.add_assoc]
      exact h (j + i) (by omega) (by omega)
  have hb : t.frameByte a = s.frameByte a := h 0 (by decide) (by decide)
  simp only [State.ip4Header, hb, h 8 (by decide) (by decide), h 9 (by decide) (by decide), hw 12 (by decide),
    hw 16 (by decide)]

theorem State.ip6Header_congr (h : ∀ i < 40, t.frameByte (a + i) = s.frameByte (a + i)) :
    t.ip6Header a = s.ip6Header a := by
  have hw : t.wordAt 32 a = s.wordAt 32 a := State.wordAt_congr_at (j := 0) h (by decide)
  simp only [State.ip6Header, hw, State.wordAt_congr_at (w := 16) (j := 4) h (by decide), h 6 (by decide),
    h 7 (by decide), State.wordAt_congr_at (w := 128) (j := 8) h (by decide),
    State.wordAt_congr_at (w := 128) (j := 24) h (by decide)]

theorem State.icmpHeader_congr (h : ∀ i < 4, t.frameByte (a + i) = s.frameByte (a + i)) :
    t.icmpHeader a = s.icmpHeader a := by
  have hb : t.frameByte a = s.frameByte a := h 0 (by decide)
  simp only [State.icmpHeader, hb, h 1 (by decide), State.wordAt_congr_at (w := 16) (j := 2) h (by decide)]

theorem State.tcpHeader_congr (h : ∀ i < 14, t.frameByte (a + i) = s.frameByte (a + i)) :
    t.tcpHeader a = s.tcpHeader a := by
  have hw : t.wordAt 16 a = s.wordAt 16 a := State.wordAt_congr_at (j := 0) h (by decide)
  simp only [State.tcpHeader, hw, State.wordAt_congr_at (w := 16) (j := 2) h (by decide),
    State.wordAt_congr_at (w := 32) (j := 4) h (by decide), State.wordAt_congr_at (w := 32) (j := 8) h (by decide),
    State.wordAt_congr_at (w := 16) (j := 12) h (by decide)]

theorem State.udpHeader_congr (h : ∀ i < 8, t.frameByte (a + i) = s.frameByte (a + i)) :
    t.udpHeader a = s.udpHeader a := by
  have hw : t.wordAt 16 a = s.wordAt 16 a := State.wordAt_congr_at (j := 0) h (by decide)
  simp only [State.udpHeader, hw, State.wordAt_congr_at (w := 16) (j := 2) h (by decide),
    State.wordAt_congr_at (w := 16) (j := 4) h (by decide), State.wordAt_congr_at (w := 16) (j := 6) h (by decide)]

end

/-- The IPv4 header length in bytes is four times its length in words (R72, R77). -/
theorem State.ip4Header_hlen_toNat (s : State) (a : Nat) :
    (s.ip4Header a).hlen.toNat = 4 * ((s.frameByte a).extractLsb' 0 4).toNat :=
  wordsToBytes_toNat _

/-! ## Every layer operation as explicit next states -/

/-- The state after a whole Ethernet header (R100). -/
def State.pastEth (s : State) : State :=
  ((s.setRegs (s.regs.putEth (s.ethHeader 0))).setPc 14).goto .layer3

/-- The state after a whole IPv4 header (R111). -/
def State.pastIpv4 (s : State) : State :=
  (((s.setRegs (s.regs.putIp4 (s.ip4Header s.pc))).setStatus (s.status.setL3 .v4)).setPc
    (s.pc + (s.ip4Header s.pc).hlen.toNat)).goto .layer4

/-- The state after a whole IPv6 header (R114). -/
def State.pastIpv6 (s : State) : State :=
  (((s.setRegs (s.regs.putIp6 (s.ip6Header s.pc))).setStatus (s.status.setL3 .v6)).setPc (s.pc + 40)).goto .layer4

/-- The state after L3OTHER (R116). -/
def State.pastL3other (s : State) : State :=
  ((s.setView s.pc s.remaining).setStatus ((s.status.setL3 .other).setLabel .unknown)).goto .finish

/-- The state after a whole ICMP header (R131). -/
def State.pastIcmp (s : State) : State :=
  (((s.setRegs (s.regs.putIcmp (s.icmpHeader s.pc))).setStatus ((s.status.setL4 .icmp).setLabel .icmp)).setView
    (s.pc + 4) (s.remaining - 4)).goto .finish

/-- TCP's writes before the payload view (R132). -/
def State.tcpFields (s : State) : State :=
  (s.setRegs (s.regs.putTcp (s.tcpHeader s.pc))).setStatus ((s.status.setL4 .tcp).setLabel .tcp)

/-- The state after a TCP header whose data offset lies inside the frame (R133). -/
def State.pastTcp (s : State) : State :=
  (s.tcpFields.setView (s.pc + (s.tcpHeader s.pc).hlen.toNat)
    (s.remaining - (s.tcpHeader s.pc).hlen.toNat)).goto .finish

/-- The state after a TCP header whose data offset runs over the end of the frame (R133). -/
def State.pastTcpOverrun (s : State) : State :=
  ((s.tcpFields.setStatus s.tcpFields.status.setDoffOvr).setView s.flen 0).goto .finish

theorem State.pastTcp_eq (s : State) (ho : (s.tcpHeader s.pc).hlen.toNat ≤ s.remaining) :
    (s.tcpFields.tcpView (s.tcpHeader s.pc).hlen.toNat).goto .finish = s.pastTcp :=
  congrArg (State.goto · .finish) (s.tcpFields.tcpView_fits _ ho)

theorem State.pastTcpOverrun_eq (s : State) (ho : s.remaining < (s.tcpHeader s.pc).hlen.toNat) :
    (s.tcpFields.tcpView (s.tcpHeader s.pc).hlen.toNat).goto .finish = s.pastTcpOverrun :=
  congrArg (State.goto · .finish) (s.tcpFields.tcpView_overrun _ ho)

/-- The state after a whole UDP header (R135). -/
def State.pastUdp (s : State) : State :=
  (((s.setRegs (s.regs.putUdp (s.udpHeader s.pc))).setStatus ((s.status.setL4 .udp).setLabel .udp)).setView
    (s.pc + 8) (s.remaining - 8)).goto .finish

/-- The state after L4OTHER (R136). -/
def State.pastL4other (s : State) : State :=
  ((s.setView s.pc s.remaining).setStatus ((s.status.setL4 .other).setLabel .protoNum)).goto .finish

/-- The state a layer operation answers from `s`: each completes, or ends the DECODE by its exception. -/
inductive LayerEnds (s : State) : Instr → State → Prop where
  | dropped (hn : s.flen < 14) : LayerEnds s .eth s.enterFrameTooShort
  | eth (hn : 14 ≤ s.flen) : LayerEnds s .eth s.pastEth
  | truncatedIpv4 (hn : s.remaining < 20 ∨ s.remaining < (s.ip4Header s.pc).hlen.toNat) :
      LayerEnds s .ipv4 s.enterTruncatedL3
  | ipv4 (hn : 20 ≤ s.remaining) (hl : (s.ip4Header s.pc).hlen.toNat ≤ s.remaining) : LayerEnds s .ipv4 s.pastIpv4
  | truncatedIpv6 (hn : s.remaining < 40) : LayerEnds s .ipv6 s.enterTruncatedL3
  | ipv6 (hn : 40 ≤ s.remaining) : LayerEnds s .ipv6 s.pastIpv6
  | l3other (e : BitVec 16) : LayerEnds s (.l3other e) s.pastL3other
  | truncatedIcmp (hn : s.remaining < 4) : LayerEnds s .icmp s.enterTruncatedL4
  | icmp (hn : 4 ≤ s.remaining) : LayerEnds s .icmp s.pastIcmp
  | truncatedTcp (hn : s.remaining < 14) : LayerEnds s .tcp s.enterTruncatedL4
  | tcp (hn : 14 ≤ s.remaining) (ho : (s.tcpHeader s.pc).hlen.toNat ≤ s.remaining) : LayerEnds s .tcp s.pastTcp
  | tcpOverrun (hn : 14 ≤ s.remaining) (ho : s.remaining < (s.tcpHeader s.pc).hlen.toNat) :
      LayerEnds s .tcp s.pastTcpOverrun
  | truncatedUdp (hn : s.remaining < 8) : LayerEnds s .udp s.enterTruncatedL4
  | udp (hn : 8 ≤ s.remaining) : LayerEnds s .udp s.pastUdp
  | l4other (p : BitVec 8) : LayerEnds s (.l4other p) s.pastL4other

/-- Every layer operation answers a next state, and it is one of these. -/
theorem layer_ends (i : Instr) (s : State) (hi : i ≠ .decode) : ∃ t, exec i s = .next t ∧ LayerEnds s i t := by
  have hend := s.pc_add_remaining
  cases i with
  | eth =>
    rcases execEth_cases s with ⟨hn, e⟩ | ⟨hn, x, hx, e⟩
    · exact ⟨_, e, .dropped hn⟩
    · cases (State.readEth_eq s 0 hn).symm.trans hx
      exact ⟨_, e, .eth hn⟩
  | ipv4 =>
    rcases execIpv4_cases s with ⟨hn, e⟩ | ⟨hn, hl, x, hx, -, e⟩
    · have hn' : s.remaining < 20 ∨ s.remaining < (s.ip4Header s.pc).hlen.toNat := by
        dsimp only [State.ip4Header]
        omega
      exact ⟨_, e, .truncatedIpv4 hn'⟩
    · cases (State.readIp4_eq s s.pc (by omega)).symm.trans hx
      exact ⟨_, e, .ipv4 hn hl⟩
  | ipv6 =>
    rcases execIpv6_cases s with ⟨hn, e⟩ | ⟨hn, x, hx, e⟩
    · exact ⟨_, e, .truncatedIpv6 hn⟩
    · cases (State.readIp6_eq s s.pc (by omega)).symm.trans hx
      exact ⟨_, e, .ipv6 hn⟩
  | l3other e => exact ⟨_, rfl, .l3other e⟩
  | icmp =>
    rcases execIcmp_cases s with ⟨hn, e⟩ | ⟨hn, x, hx, e⟩
    · exact ⟨_, e, .truncatedIcmp hn⟩
    · cases (State.readIcmp_eq s s.pc (by omega)).symm.trans hx
      exact ⟨_, e, .icmp hn⟩
  | tcp =>
    rcases execTcp_cases s with ⟨hn, e⟩ | ⟨hn, x, hx, e⟩
    · exact ⟨_, e, .truncatedTcp hn⟩
    · cases (State.readTcp_eq s s.pc (by omega)).symm.trans hx
      by_cases ho : (s.tcpHeader s.pc).hlen.toNat ≤ s.remaining
      · exact ⟨_, e.trans (congrArg _ (s.pastTcp_eq ho)), .tcp hn ho⟩
      · have ho' := Nat.lt_of_not_le ho
        exact ⟨_, e.trans (congrArg _ (s.pastTcpOverrun_eq ho')), .tcpOverrun hn ho'⟩
  | udp =>
    rcases execUdp_cases s with ⟨hn, e⟩ | ⟨hn, x, hx, e⟩
    · exact ⟨_, e, .truncatedUdp hn⟩
    · cases (State.readUdp_eq s s.pc (by omega)).symm.trans hx
      exact ⟨_, e, .udp hn⟩
  | l4other p => exact ⟨_, rfl, .l4other p⟩
  | decode => exact absurd rfl hi

/-- What a layer operation that answers a next state did. -/
theorem LayerEnds.of_exec {i : Instr} {s t : State} (hi : i ≠ .decode) (h : exec i s = .next t) : LayerEnds s i t := by
  obtain ⟨u, hu, hends⟩ := layer_ends i s hi
  cases h.symm.trans hu
  exact hends

/-- The ends of one operation exclude each other. -/
theorem LayerEnds.unique {i : Instr} {s t u : State} (h : LayerEnds s i t) (h' : LayerEnds s i u) : t = u := by
  cases h <;> cases h' <;> try rfl
  all_goals omega

/-- The converse of `LayerEnds.of_exec`. -/
theorem LayerEnds.exec_eq {i : Instr} {s t : State} (hi : i ≠ .decode) (h : LayerEnds s i t) : exec i s = .next t := by
  obtain ⟨u, hu, hends⟩ := layer_ends i s hi
  rw [hu, hends.unique h]

/-! ## What a layer operation leaves unchanged (R21, R25 to R33, R56, R177) -/

/-- `t` holds the frame `s` holds: the same bytes at every offset, and the same FLEN. -/
structure State.SameFrame (s t : State) : Prop where
  frame : t.frame = s.frame
  flen : t.flen = s.flen
  epoch : t.epoch = s.epoch

theorem State.SameFrame.frameByte {s t : State} (h : s.SameFrame t) (a : Nat) : t.frameByte a = s.frameByte a := by
  rw [State.frameByte, h.frame, h.epoch, State.frameByte]

theorem State.SameFrame.wordAt {s t : State} (h : s.SameFrame t) (w a : Nat) : t.wordAt w a = s.wordAt w a :=
  State.wordAt_congr fun _ _ => h.frameByte _

theorem State.SameFrame.trans {s t u : State} (h : s.SameFrame t) (h' : t.SameFrame u) : s.SameFrame u :=
  ⟨h'.frame.trans h.frame, h'.flen.trans h.flen, h'.epoch.trans h.epoch⟩

/-- No layer operation writes the frame. -/
theorem LayerEnds.sameFrame {i : Instr} {s t : State} (h : LayerEnds s i t) : s.SameFrame t := by
  cases h <;> exact ⟨rfl, rfl, rfl⟩

/-- Only ETH, IPV4 and IPV6 move the cursor (R22). -/
theorem LayerEnds.pc_eq {i : Instr} {s t : State} (h : LayerEnds s i t) (he : i ≠ .eth) (h4 : i ≠ .ipv4)
    (h6 : i ≠ .ipv6) : t.pc = s.pc := by
  cases h with
  | dropped | eth => exact absurd rfl he
  | truncatedIpv4 | ipv4 => exact absurd rfl h4
  | truncatedIpv6 | ipv6 => exact absurd rfl h6
  | _ => rfl

section
variable {r : Regs} {x : Reg}

/-! Each group write changes the registers of its group only. -/

theorem Regs.read_putEth (h : EthHeader) (hx : x ∉ Instr.eth.writes) : (r.putEth h).read x = r.read x := by
  cases x <;> simp [Instr.writes] at hx <;> rfl

theorem Regs.read_putView (off len : Nat) (hx : x ∉ [Reg.payOff, Reg.payLen]) :
    (r.putView off len).read x = r.read x := by
  cases x <;> simp at hx <;> rfl

theorem Regs.read_putIp4 (h : Ip4Header) (hx : x ∉ Instr.ipv4.writes) : (r.putIp4 h).read x = r.read x := by
  cases x <;> simp [Instr.writes] at hx <;> rfl

theorem Regs.read_putIp6 (h : Ip6Header) (hx : x ∉ Instr.ipv6.writes) : (r.putIp6 h).read x = r.read x := by
  cases x <;> simp [Instr.writes] at hx <;> rfl

theorem Regs.read_putIcmp (h : IcmpHeader) (hx : x ∉ Instr.icmp.writes) : (r.putIcmp h).read x = r.read x := by
  cases x <;> simp [Instr.writes] at hx <;> rfl

theorem Regs.read_putTcp (h : TcpHeader) (hx : x ∉ Instr.tcp.writes) : (r.putTcp h).read x = r.read x := by
  cases x <;> simp [Instr.writes] at hx <;> rfl

theorem Regs.read_putUdp (h : UdpHeader) (hx : x ∉ Instr.udp.writes) : (r.putUdp h).read x = r.read x := by
  cases x <;> simp [Instr.writes] at hx <;> rfl

end

/-- An operation but ETH, or its exception, may write the payload view. -/
theorem Instr.payload_subset_writes {i : Instr} (he : i ≠ .eth) : [Reg.payOff, Reg.payLen] ⊆ i.writes := by
  cases i with
  | eth => exact absurd rfl he
  | _ => simp [Instr.writes, Reg.all]

/-- Every register a layer operation or its exception writes is one of `Instr.writes`. -/
theorem LayerEnds.read_eq {i : Instr} {s t : State} (h : LayerEnds s i t) {x : Reg} (hx : x ∉ i.writes) :
    t.regs.read x = s.regs.read x := by
  have hview : i ≠ .eth → x ∉ [Reg.payOff, Reg.payLen] := fun he hm => hx (Instr.payload_subset_writes he hm)
  cases h with
  | dropped => rfl
  | eth => exact Regs.read_putEth _ hx
  | ipv4 => exact Regs.read_putIp4 _ hx
  | ipv6 => exact Regs.read_putIp6 _ hx
  | truncatedIpv4 | truncatedIpv6 | truncatedIcmp | truncatedTcp | truncatedUdp | l3other | l4other =>
    exact Regs.read_putView _ _ (hview nofun)
  | icmp => exact (Regs.read_putView _ _ (hview nofun)).trans (Regs.read_putIcmp _ hx)
  | tcp | tcpOverrun => exact (Regs.read_putView _ _ (hview nofun)).trans (Regs.read_putTcp _ hx)
  | udp => exact (Regs.read_putView _ _ (hview nofun)).trans (Regs.read_putUdp _ hx)

/-- A write as a mask keeps every STATUS bit outside `m`, if neither what it clears nor what it sets is outside. -/
theorem Status.masked_outside (st : Status) {c v m : Status} (hc : c &&& ~~~m = 0) (hv : v &&& ~~~m = 0) :
    ((st &&& ~~~c) ||| v) &&& ~~~m = st &&& ~~~m := by
  refine Status.ext_bits fun i hi => ?_
  have hci := congrArg (·.getLsbD i) hc
  have hvi := congrArg (·.getLsbD i) hv
  simp only [BitVec.getLsbD_and, BitVec.getLsbD_or, BitVec.getLsbD_not, hi, decide_true,
    Bool.true_and] at hci hvi ⊢
  cases hm : m.getLsbD i <;> simp_all

/-- Every operation and exception writes STATUS as a mask inside `Instr.statusMask` (R33, R177). -/
theorem LayerEnds.status_outside {i : Instr} {s t : State} (h : LayerEnds s i t) :
    t.status &&& ~~~i.statusMask = s.status &&& ~~~i.statusMask := by
  cases h with
  | dropped =>
    have e : s.enterFrameTooShort.status = (s.status &&& ~~~0#16) ||| 0x0003#16 := by
      rw [State.enterFrameTooShort_eq, Status.drop_eq, BitVec.not_zero, BitVec.and_allOnes]
    rw [e]
    exact Status.masked_outside _ rfl rfl
  | eth => rfl
  | truncatedIpv4 | truncatedIpv6 =>
    rw [State.enterTruncatedL3_eq, Status.truncL3_eq]
    exact Status.masked_outside _ rfl rfl
  | ipv4 => exact (congrArg (· &&& _) s.status.setL3_v4_eq).trans (Status.masked_outside _ rfl rfl)
  | ipv6 => exact (congrArg (· &&& _) s.status.setL3_v6_eq).trans (Status.masked_outside _ rfl rfl)
  | l3other =>
    dsimp only [Instr.statusMask]
    exact (congrArg (· &&& _) s.status.l3other_eq).trans (Status.masked_outside _ rfl rfl)
  | truncatedIcmp | truncatedTcp | truncatedUdp =>
    rw [State.enterTruncatedL4_eq, Status.truncL4_eq _ _ (by split <;> simp)]
    split <;> exact Status.masked_outside _ rfl rfl
  | icmp | udp | l4other | tcp =>
    dsimp only [Instr.statusMask]
    exact (congrArg (· &&& _) (s.status.l4_eq _ _)).trans (Status.masked_outside _ rfl rfl)
  | tcpOverrun => exact (congrArg (· &&& _) s.status.overrun_eq).trans (Status.masked_outside _ rfl rfl)

/-- Settles O38: the two next states of each operation, register by register and mask by mask. -/
theorem layerOperationsLeaveTheRest : Obligations.LayerOperationsLeaveTheRest := by
  unfold Obligations.LayerOperationsLeaveTheRest
  intro i s t hi h
  have hends := LayerEnds.of_exec hi h
  exact ⟨fun _ hr => hends.read_eq hr, hends.status_outside, hends.sameFrame.frameByte, hends.sameFrame.flen,
    hends.pc_eq⟩

/-! ## The selectors and the operations they choose -/

/-- Layer-3 dispatch, one case for each operation (R78). -/
theorem decodeEthertype_cases (e : BitVec 16) :
    (e = ethertypeIpv4 ∧ decodeEthertype e = .ipv4) ∨ (e = ethertypeIpv6 ∧ decodeEthertype e = .ipv6) ∨
    (e ≠ ethertypeIpv4 ∧ e ≠ ethertypeIpv6 ∧ decodeEthertype e = .l3other e) := by
  unfold decodeEthertype
  split
  · exact .inl ⟨‹_›, rfl⟩
  · split
    · exact .inr (.inl ⟨‹_›, rfl⟩)
    · exact .inr (.inr ⟨‹_›, ‹_›, rfl⟩)

/-- Layer-4 dispatch, one case for each operation (R79). -/
theorem decodeProtocol_cases (p : BitVec 8) :
    (p = protoIcmp ∧ decodeProtocol p = .icmp) ∨ (p = protoTcp ∧ decodeProtocol p = .tcp) ∨
    (p = protoUdp ∧ decodeProtocol p = .udp) ∨
    (p ≠ protoIcmp ∧ p ≠ protoTcp ∧ p ≠ protoUdp ∧ decodeProtocol p = .l4other p) := by
  unfold decodeProtocol
  split
  · exact .inl ⟨‹_›, rfl⟩
  · split
    · exact .inr (.inl ⟨‹_›, rfl⟩)
    · split
      · exact .inr (.inr (.inl ⟨‹_›, rfl⟩))
      · exact .inr (.inr (.inr ⟨‹_›, ‹_›, ‹_›, rfl⟩))

/-! ## What layer 4 makes of STATUS and the payload view (R153, R154) -/

/-- The TCP data offset stands in the high half of byte 12 of the header (R75). -/
theorem State.tcpHeader_hlen_toNat (s : State) (a : Nat) : (s.tcpHeader a).hlen.toNat = s.frameDataOffset a := by
  rw [State.frameDataOffset, ← wordsToBytes_toNat, State.tcpHeader, s.wordAt_16 (a + 12),
    BitVec.extractLsb'_append_eq_of_le (by decide)]

/-- STATUS at layer 4: only L3_KIND is set. -/
def ipStatus (v6 : Bool) : Status := if v6 then 0x0008#16 else 0x0004#16

section
variable {s t : State} {p : BitVec 8} {l4 n : Nat} {r : Regs} (v6 : Bool)

/-! The two tables, row by row. -/

theorem State.l4_truncated
    (hn : p = protoIcmp ∧ s.flen - l4 < 4 ∨ p = protoTcp ∧ s.flen - l4 < 14 ∨ p = protoUdp ∧ s.flen - l4 < 8) :
    s.l4Status v6 l4 p = (if v6 then 0x1909#16 else 0x1505#16) ∧ s.l4ViewStart l4 p = l4 := by
  rcases hn with ⟨rfl, hn⟩ | ⟨rfl, hn⟩ | ⟨rfl, hn⟩ <;>
    simp [State.l4Status, State.l4ViewStart, protoIcmp, protoTcp, protoUdp, hn]

theorem State.l4_icmp (hn : 4 ≤ s.flen - l4) :
    s.l4Status v6 l4 protoIcmp = (if v6 then 0x0419#16 else 0x0415#16) ∧ s.l4ViewStart l4 protoIcmp = l4 + 4 := by
  simp [State.l4Status, State.l4ViewStart, protoIcmp, Nat.not_lt.2 hn]

theorem State.l4_tcp (hn : 14 ≤ s.flen - l4) (ho : s.frameDataOffset l4 ≤ s.flen - l4) :
    s.l4Status v6 l4 protoTcp = (if v6 then 0x0829#16 else 0x0825#16) ∧
      s.l4ViewStart l4 protoTcp = l4 + s.frameDataOffset l4 := by
  simp [State.l4Status, State.l4ViewStart, protoTcp, Nat.not_lt.2 hn, Nat.not_lt.2 ho]

theorem State.l4_tcpOverrun (hn : 14 ≤ s.flen - l4) (ho : s.flen - l4 < s.frameDataOffset l4) :
    s.l4Status v6 l4 protoTcp = (if v6 then 0x0A29#16 else 0x0A25#16) ∧ s.l4ViewStart l4 protoTcp = s.flen := by
  simp [State.l4Status, State.l4ViewStart, protoTcp, Nat.not_lt.2 hn, ho]

theorem State.l4_udp (hn : 8 ≤ s.flen - l4) :
    s.l4Status v6 l4 protoUdp = (if v6 then 0x0C39#16 else 0x0C35#16) ∧ s.l4ViewStart l4 protoUdp = l4 + 8 := by
  simp [State.l4Status, State.l4ViewStart, protoUdp, Nat.not_lt.2 hn]

theorem State.l4_other (h1 : p ≠ protoIcmp) (h6 : p ≠ protoTcp) (h17 : p ≠ protoUdp) :
    s.l4Status v6 l4 p = (if v6 then 0x1049#16 else 0x1045#16) ∧ s.l4ViewStart l4 p = l4 := by
  simp only [protoIcmp, protoTcp, protoUdp, ne_eq] at h1 h6 h17
  simp [State.l4Status, State.l4ViewStart, h1, h6, h17]

/-! Which registers hold a value after each row (R35). -/

/-- The registers before layer 4: FRAME_LEN, the Ethernet group and the group of one IP. -/
inductive Regs.OverIp (flen : Nat) : Bool → Regs → Prop where
  | ipv4 (e : EthHeader) (h : Ip4Header) :
      Regs.OverIp flen false ((({ Regs.empty with frameLen := some flen } : Regs).putEth e).putIp4 h)
  | ipv6 (e : EthHeader) (h : Ip6Header) :
      Regs.OverIp flen true ((({ Regs.empty with frameLen := some flen } : Regs).putEth e).putIp6 h)

theorem Regs.OverIp.lists_truncated (h : Regs.OverIp n v6 r) (off len : Nat) (x : Reg) :
    ((r.putView off len).read x).isSome = Status.lists (if v6 then 0x1909#16 else 0x1505#16) x := by
  cases h <;> cases x <;> rfl

theorem Regs.OverIp.lists_icmp (h : Regs.OverIp n v6 r) (m : IcmpHeader) (off len : Nat) (x : Reg) :
    (((r.putIcmp m).putView off len).read x).isSome = Status.lists (if v6 then 0x0419#16 else 0x0415#16) x := by
  cases h <;> cases x <;> rfl

theorem Regs.OverIp.lists_tcp (h : Regs.OverIp n v6 r) (m : TcpHeader) (off len : Nat) (x : Reg) :
    (((r.putTcp m).putView off len).read x).isSome = Status.lists (if v6 then 0x0829#16 else 0x0825#16) x := by
  cases h <;> cases x <;> rfl

theorem Regs.OverIp.lists_tcpOverrun (h : Regs.OverIp n v6 r) (m : TcpHeader) (off len : Nat) (x : Reg) :
    (((r.putTcp m).putView off len).read x).isSome = Status.lists (if v6 then 0x0A29#16 else 0x0A25#16) x := by
  cases h <;> cases x <;> rfl

theorem Regs.OverIp.lists_udp (h : Regs.OverIp n v6 r) (m : UdpHeader) (off len : Nat) (x : Reg) :
    (((r.putUdp m).putView off len).read x).isSome = Status.lists (if v6 then 0x0C39#16 else 0x0C35#16) x := by
  cases h <;> cases x <;> rfl

theorem Regs.OverIp.lists_other (h : Regs.OverIp n v6 r) (off len : Nat) (x : Reg) :
    ((r.putView off len).read x).isSome = Status.lists (if v6 then 0x1049#16 else 0x1045#16) x := by
  cases h <;> cases x <;> rfl

/-- What a layer-4 operation and the last line of DECODE leave in STATUS and the payload view, and which registers then
hold a value. -/
theorem LayerEnds.l4_outcome (h : LayerEnds s (decodeProtocol p) t) (hst : s.status = ipStatus v6)
    (hr : Regs.OverIp n v6 s.regs) :
    t.status.setDone = s.l4Status v6 s.pc p ∧ t.regs.payOff = some (s.l4ViewStart s.pc p) ∧
      t.regs.payLen = some (s.flen - s.l4ViewStart s.pc p) ∧
      ∀ x, (t.regs.read x).isSome = (s.l4Status v6 s.pc p).lists x := by
  have htrunc : s.enterTruncatedL4.status.setDone = if v6 then 0x1909#16 else 0x1505#16 := by
    simp only [State.enterTruncatedL4, State.endByException_status, hst]
    cases v6 <;> decide
  have hdone (k : L4Kind) (l : Label) :
      ((s.status.setL4 k).setLabel l).setDone = (((ipStatus v6).setL4 k).setLabel l).setDone := by rw [hst]
  have hoff := s.tcpHeader_hlen_toNat s.pc
  rcases decodeProtocol_cases p with ⟨rfl, e⟩ | ⟨rfl, e⟩ | ⟨rfl, e⟩ | ⟨h1, h6, h17, e⟩ <;> rw [e] at h
  · cases h with
    | truncatedIcmp hn =>
      obtain ⟨hs, hv⟩ := State.l4_truncated v6 (.inl ⟨rfl, hn⟩)
      rw [hs, hv]
      exact ⟨htrunc, rfl, rfl, hr.lists_truncated v6 _ _⟩
    | icmp hn =>
      obtain ⟨hs, hv⟩ := State.l4_icmp v6 hn
      rw [hs, hv]
      exact ⟨(hdone .icmp .icmp).trans (by cases v6 <;> rfl), rfl, congrArg some (Nat.sub_sub ..),
        hr.lists_icmp v6 _ _ _⟩
  · cases h with
    | truncatedTcp hn =>
      obtain ⟨hs, hv⟩ := State.l4_truncated v6 (.inr (.inl ⟨rfl, hn⟩))
      rw [hs, hv]
      exact ⟨htrunc, rfl, rfl, hr.lists_truncated v6 _ _⟩
    | tcp hn ho =>
      rw [hoff] at ho
      obtain ⟨hs, hv⟩ := State.l4_tcp v6 hn ho
      rw [hs, hv, ← hoff]
      exact ⟨(hdone .tcp .tcp).trans (by cases v6 <;> rfl), rfl, congrArg some (Nat.sub_sub ..),
        hr.lists_tcp v6 _ _ _⟩
    | tcpOverrun hn ho =>
      rw [hoff] at ho
      obtain ⟨hs, hv⟩ := State.l4_tcpOverrun v6 hn ho
      rw [hs, hv, Nat.sub_self]
      have hovr : s.pastTcpOverrun.status.setDone = (((ipStatus v6).setL4 .tcp).setLabel .tcp).setDoffOvr.setDone :=
        congrArg (fun st => (((Status.setL4 st .tcp).setLabel .tcp).setDoffOvr).setDone) hst
      exact ⟨hovr.trans (by cases v6 <;> rfl), rfl, rfl, hr.lists_tcpOverrun v6 _ _ _⟩
  · cases h with
    | truncatedUdp hn =>
      obtain ⟨hs, hv⟩ := State.l4_truncated v6 (.inr (.inr ⟨rfl, hn⟩))
      rw [hs, hv]
      exact ⟨htrunc, rfl, rfl, hr.lists_truncated v6 _ _⟩
    | udp hn =>
      obtain ⟨hs, hv⟩ := State.l4_udp v6 hn
      rw [hs, hv]
      exact ⟨(hdone .udp .udp).trans (by cases v6 <;> rfl), rfl, congrArg some (Nat.sub_sub ..),
        hr.lists_udp v6 _ _ _⟩
  · cases h
    obtain ⟨hs, hv⟩ := State.l4_other v6 h1 h6 h17
    rw [hs, hv]
    exact ⟨(hdone .other .protoNum).trans (by cases v6 <;> rfl), rfl, rfl, hr.lists_other v6 _ _⟩

/-! What the two tables say, row by row. -/

theorem State.l4ViewStart_bounds (hl : l4 ≤ s.flen) : l4 ≤ s.l4ViewStart l4 p ∧ s.l4ViewStart l4 p ≤ s.flen := by
  simp only [State.l4ViewStart]
  split_ifs <;> omega

/-- STATUS over an IP header names that IP, and is one of the fifteen. -/
theorem State.l4Status_ip (s : State) (l4 : Nat) (p : BitVec 8) :
    s.l4Status v6 l4 p ∈ doneStatuses ∧ (s.l4Status v6 l4 p).drop = false ∧ (s.l4Status v6 l4 p).isL3 .v4 = !v6 ∧
      (s.l4Status v6 l4 p).isL3 .v6 = v6 ∧ (s.l4Status v6 l4 p).isL3 .other = false := by
  cases v6 <;> simp only [State.l4Status, Bool.false_eq_true, ↓reduceIte] <;> split_ifs <;> decide

/-- A transport kind in STATUS means that protocol number, and its header inside the frame. -/
theorem State.l4Status_kind (s : State) (l4 : Nat) (p : BitVec 8) :
    ((s.l4Status v6 l4 p).isL4 .icmp = true → p = protoIcmp ∧ 4 ≤ s.flen - l4) ∧
    ((s.l4Status v6 l4 p).isL4 .tcp = true → p = protoTcp ∧ 14 ≤ s.flen - l4) ∧
    ((s.l4Status v6 l4 p).isL4 .udp = true → p = protoUdp ∧ 8 ≤ s.flen - l4) ∧
    ((s.l4Status v6 l4 p).doffOvr = true → p = protoTcp ∧ 14 ≤ s.flen - l4 ∧ s.flen - l4 < s.frameDataOffset l4) := by
  rcases decodeProtocol_cases p with ⟨rfl, -⟩ | ⟨rfl, -⟩ | ⟨rfl, -⟩ | ⟨h1, h6, h17, -⟩
  · by_cases hn : 4 ≤ s.flen - l4
    · rw [(s.l4_icmp v6 hn).1]
      cases v6 <;> exact ⟨fun _ => ⟨rfl, hn⟩, nofun, nofun, nofun⟩
    · rw [(s.l4_truncated v6 (.inl ⟨rfl, Nat.lt_of_not_le hn⟩)).1]
      cases v6 <;> exact ⟨nofun, nofun, nofun, nofun⟩
  · by_cases hn : 14 ≤ s.flen - l4
    · by_cases ho : s.frameDataOffset l4 ≤ s.flen - l4
      · rw [(s.l4_tcp v6 hn ho).1]
        cases v6 <;> exact ⟨nofun, fun _ => ⟨rfl, hn⟩, nofun, nofun⟩
      · have ho' := Nat.lt_of_not_le ho
        rw [(s.l4_tcpOverrun v6 hn ho').1]
        cases v6 <;> exact ⟨nofun, fun _ => ⟨rfl, hn⟩, nofun, fun _ => ⟨rfl, hn, ho'⟩⟩
    · rw [(s.l4_truncated v6 (.inr (.inl ⟨rfl, Nat.lt_of_not_le hn⟩))).1]
      cases v6 <;> exact ⟨nofun, nofun, nofun, nofun⟩
  · by_cases hn : 8 ≤ s.flen - l4
    · rw [(s.l4_udp v6 hn).1]
      cases v6 <;> exact ⟨nofun, nofun, fun _ => ⟨rfl, hn⟩, nofun⟩
    · rw [(s.l4_truncated v6 (.inr (.inr ⟨rfl, Nat.lt_of_not_le hn⟩))).1]
      cases v6 <;> exact ⟨nofun, nofun, nofun, nofun⟩
  · rw [(s.l4_other v6 h1 h6 h17).1]
    cases v6 <;> exact ⟨nofun, nofun, nofun, nofun⟩

/-- The registers layer 4 does not write: FRAME_LEN, the Ethernet group and the IP groups. -/
def Regs.upToLayer3 (r : Regs) : Regs :=
  { Regs.empty with
    frameLen := r.frameLen, ethDst := r.ethDst, ethSrc := r.ethSrc, ethType := r.ethType
    ipVer := r.ipVer, ipProto := r.ipProto
    ip4Hlen := r.ip4Hlen, ip4Ttl := r.ip4Ttl, ip4Src := r.ip4Src, ip4Dst := r.ip4Dst
    ip6Tc := r.ip6Tc, ip6Flow := r.ip6Flow, ip6Plen := r.ip6Plen, ip6Hlim := r.ip6Hlim
    ip6Src := r.ip6Src, ip6Dst := r.ip6Dst }

/-- No layer-4 operation writes FRAME_LEN, the Ethernet group or an IP group, and none moves the cursor. -/
theorem LayerEnds.l4_keeps (h : LayerEnds s (decodeProtocol p) t) :
    t.regs.upToLayer3 = s.regs.upToLayer3 ∧ t.pc = s.pc := by
  rcases decodeProtocol_cases p with ⟨rfl, e⟩ | ⟨rfl, e⟩ | ⟨rfl, e⟩ | ⟨-, -, -, e⟩ <;> rw [e] at h <;>
    cases h <;> exact ⟨rfl, rfl⟩

end

/-! ## The invariant at layer 4 -/

/-- Setting `DONE` again changes nothing. -/
theorem Status.setDone_of_done {st : Status} (h : st.done = true) : st.setDone = st := by
  have h0 : st.getLsbD 0 = true := by
    rw [Status.done, beq_iff_eq] at h
    simpa [Status.get] using congrArg (·.getLsbD 0) h
  rw [Status.setDone_eq]
  refine Status.ext_bits fun i hi => ?_
  cases i with
  | zero => simp [h0]
  | succ i => simp

/-- What the invariant says at layer 4, over either IP. -/
structure State.AtLayer4 (s : State) (v6 : Bool) : Prop where
  status : s.status = ipStatus v6
  regs : Regs.OverIp s.flen v6 s.regs
  frameLen : s.regs.frameLen = some s.flen
  ethType : s.regs.ethType = some (if v6 then ethertypeIpv6 else ethertypeIpv4)
  selector : ∃ p, s.regs.ipProto = some p
  long : (if v6 then 54 else 34) ≤ s.flen
  pc_ge : 14 ≤ s.pc
  pc_le : s.pc ≤ s.flen

section
variable {s t : State} {p : BitVec 8}

theorem State.AtPhase.layer4 (ha : s.AtPhase) (hp : s.phase = .layer4) : ∃ v6, s.AtLayer4 v6 := by
  simp only [State.AtPhase, hp] at ha
  obtain ⟨hpc, e, ⟨hst, he, hlen, ip, hregs, hcur⟩ | ⟨hst, he, hcur, ip, hregs⟩⟩ := ha
  · exact ⟨false, hst, hregs ▸ .ipv4 e ip, by rw [hregs]; rfl, by simp [hregs, he], ⟨ip.proto, by rw [hregs]; rfl⟩,
      hlen, by omega, hpc⟩
  · have hlen : 54 ≤ s.flen := hcur ▸ hpc
    exact ⟨true, hst, hregs ▸ .ipv6 e ip, by rw [hregs]; rfl, by simp [hregs, he], ⟨ip.proto, by rw [hregs]; rfl⟩,
      hlen, by omega, hpc⟩

/-- A layer-4 operation leaves registers that its outcome describes. -/
theorem State.AtLayer4.describes {v6 : Bool} (hs : s.AtLayer4 v6) (hsel : s.regs.ipProto = some p)
    (h : LayerEnds s (decodeProtocol p) t) : t.Describes t.status.setDone := by
  obtain ⟨hstatus, hoff, hlen, hlists⟩ := h.l4_outcome v6 hs.status hs.regs
  have hkeeps := h.l4_keeps.1
  have hframeLen : t.regs.frameLen = s.regs.frameLen := (congrArg Regs.frameLen hkeeps :)
  have hethType : t.regs.ethType = s.regs.ethType := (congrArg Regs.ethType hkeeps :)
  have hproto : t.regs.ipProto = s.regs.ipProto := (congrArg Regs.ipProto hkeeps :)
  obtain ⟨hmem, hdrop, hv4, hv6, hother⟩ := State.l4Status_ip v6 s s.pc p
  obtain ⟨hicmp, htcp, hudp, hovr⟩ := State.l4Status_kind v6 s s.pc p
  obtain ⟨hge, hle⟩ := State.l4ViewStart_bounds (p := p) hs.pc_le
  have hlong := hs.long
  have hregs := hs.frameLen
  have hflen := h.sameFrame.flen
  rw [← hflen] at hlen hle hlong hregs
  rw [hs.ethType] at hethType
  rw [hsel] at hproto
  rw [hstatus]
  refine
    { status_mem := hmem
      frameLen_eq := hframeLen.trans hregs
      holds_iff := hlists
      drop_iff := iff_of_false (by simp [hdrop]) (by split at hlong <;> omega)
      view := fun _ => ⟨_, _, hoff, hlen, hs.pc_ge.trans hge, Nat.add_sub_cancel' hle⟩
      v4 := fun hk => ?_
      v6 := fun hk => ?_
      other := fun hk => by simp [hother] at hk
      icmp := fun hk => (hicmp hk).1 ▸ hproto
      tcp := fun hk => (htcp hk).1 ▸ hproto
      udp := fun hk => (hudp hk).1 ▸ hproto
      overrun := fun hk => ?_ }
  · obtain rfl : v6 = false := by simpa [hv4] using hk
    exact ⟨hethType, hlong⟩
  · obtain rfl : v6 = true := by simpa [hv6] using hk
    exact ⟨hethType, hlong⟩
  · obtain ⟨rfl, hn, ho⟩ := hovr hk
    have hview := (State.l4_tcpOverrun v6 hn ho).2
    rw [hview, ← hflen] at hoff hlen
    exact ⟨hoff, by rw [hlen, Nat.sub_self]⟩

/-- The invariant holds at the position a DECODE ends at, or before its last line, once the outcome describes it. -/
theorem State.atPhase_of_describes (h : t.Describes t.status.setDone)
    (hp : (t.phase = .idle ∧ t.status.done = true) ∨ (t.phase = .finish ∧ t.status.done = false)) : t.AtPhase := by
  unfold State.AtPhase
  rcases hp with ⟨hp, hd⟩ | ⟨hp, hd⟩ <;> rw [hp]
  · rw [Status.setDone_of_done hd] at h
    exact .inr h
  · exact ⟨hd, h⟩

/-! ## The invariant at the other positions -/

theorem State.enterFrameTooShort_status (hst : s.status = 0x0000#16) : s.enterFrameTooShort.status = 0x0003#16 := by
  rw [State.enterFrameTooShort, State.endByException_status, hst]
  rfl

theorem State.enterTruncatedL3_status (hst : s.status = 0x0000#16) : s.enterTruncatedL3.status = 0x0081#16 := by
  rw [State.enterTruncatedL3, State.endByException_status, hst]
  rfl

theorem State.pastL3other_status (hst : s.status = 0x0000#16) : s.pastL3other.status = 0x000C#16 := by
  rw [State.pastL3other, State.goto_status, State.setStatus_status, hst]
  rfl

/-- A frame shorter than 14 bytes is dropped. -/
theorem State.describes_dropped (hregs : t.regs = t.begunRegs) (hn : t.flen < 14) : t.Describes 0x0003#16 where
  status_mem := by decide
  frameLen_eq := by rw [hregs]; rfl
  holds_iff x := by rw [hregs]; cases x <;> rfl
  drop_iff := iff_of_true rfl hn
  view := nofun
  v4 := nofun
  v6 := nofun
  other := nofun
  icmp := nofun
  tcp := nofun
  udp := nofun
  overrun := nofun

variable {e : EthHeader} {off len : Nat}

/-- A layer-3 truncation leaves FRAME_LEN, the Ethernet group and the Ethernet payload. -/
theorem State.describes_truncatedL3 (hregs : t.regs = (t.begunRegs.putEth e).putView off len) (hoff : 14 ≤ off)
    (hend : off + len = t.flen) : t.Describes 0x0081#16 where
  status_mem := by decide
  frameLen_eq := by rw [hregs]; rfl
  holds_iff x := by rw [hregs]; cases x <;> rfl
  drop_iff := iff_of_false nofun (by omega)
  view _ := ⟨off, len, by rw [hregs]; rfl, by rw [hregs]; rfl, hoff, hend⟩
  v4 := nofun
  v6 := nofun
  other := nofun
  icmp := nofun
  tcp := nofun
  udp := nofun
  overrun := nofun

/-- So does L3OTHER, with an ethertype that is neither IP. -/
theorem State.describes_l3other (hregs : t.regs = (t.begunRegs.putEth e).putView off len) (hoff : 14 ≤ off)
    (hend : off + len = t.flen) (h4 : e.etherType ≠ ethertypeIpv4) (h6 : e.etherType ≠ ethertypeIpv6) :
    t.Describes 0x000D#16 where
  status_mem := by decide
  frameLen_eq := by rw [hregs]; rfl
  holds_iff x := by rw [hregs]; cases x <;> rfl
  drop_iff := iff_of_false nofun (by omega)
  view _ := ⟨off, len, by rw [hregs]; rfl, by rw [hregs]; rfl, hoff, hend⟩
  v4 := nofun
  v6 := nofun
  other _ := by rw [hregs]; exact ⟨fun h => h4 (Option.some.inj h), fun h => h6 (Option.some.inj h)⟩
  icmp := nofun
  tcp := nofun
  udp := nofun
  overrun := nofun

/-- The block's own half of the invariant: what `State.Inv` says besides the frame buffer. -/
structure State.InOrder (s : State) : Prop where
  cursor : s.PcLegal
  position : s.AtPhase

theorem State.inv_iff : s.Inv ↔ s.frame.wf = true ∧ (∀ c ∈ s.frame, c.1 < s.flen) ∧ s.InOrder :=
  ⟨fun ⟨hm, hf, hc, hp⟩ => ⟨hm, hf, hc, hp⟩, fun ⟨hm, hf, hc, hp⟩ => ⟨hm, hf, hc, hp⟩⟩

/-- A DECODE begins in order, whatever was decoded before. -/
theorem State.beginDecode_inOrder (s : State) : s.beginDecode.InOrder := ⟨.inl rfl, rfl, rfl, rfl⟩

/-- ETH keeps the invariant at layer 2. -/
theorem State.InOrder.eth (hs : s.InOrder) (hp : s.phase = .layer2) (hx : exec .eth s = .next t) : t.InOrder := by
  have h := LayerEnds.of_exec (by decide) hx
  obtain ⟨hst, hregs, hpc⟩ : s.status = 0x0000#16 ∧ s.regs = s.begunRegs ∧ s.pc = 0 := by
    simpa only [State.AtPhase, hp] using hs.position
  cases h with
  | dropped hn =>
    refine ⟨hs.cursor, .inr ?_⟩
    rw [State.enterFrameTooShort_status hst]
    exact State.describes_dropped hregs hn
  | eth hn => exact ⟨.inr ⟨0, by decide, rfl⟩, hst, rfl, hn, _, congrArg (Regs.putEth · _) hregs⟩

/-- A whole IPv4 header leaves the block in order at layer 4: the cursor is at 14 and a number of words (R22). -/
theorem State.pastIpv4_inOrder (hst : s.status = 0x0000#16) (hpc : s.pc = 14) (hregs : s.regs = s.begunRegs.putEth e)
    (he : e.etherType = ethertypeIpv4) (hn : 20 ≤ s.remaining) (hl : (s.ip4Header s.pc).hlen.toNat ≤ s.remaining) :
    s.pastIpv4.InOrder := by
  have hend := s.pc_add_remaining (by omega)
  have hwords : ((s.frameByte s.pc).extractLsb' 0 4).toNat < 16 := ((s.frameByte s.pc).extractLsb' 0 4).isLt
  have hcur : s.pastIpv4.pc = 14 + (s.ip4Header s.pc).hlen.toNat := congrArg (· + _) hpc
  have hinside : s.pastIpv4.pc ≤ s.flen := by omega
  have hlong : 34 ≤ s.flen := by omega
  have hstatus : s.pastIpv4.status = 0x0004#16 := by
    rw [State.pastIpv4, hst]
    rfl
  refine ⟨.inr ⟨_, Nat.le_of_lt_succ hwords, ?_⟩, hinside, e, .inl ⟨hstatus, he, hlong, s.ip4Header s.pc, ?_, hcur⟩⟩
  · rw [hcur, State.ip4Header_hlen_toNat]
  · exact congrArg (Regs.putIp4 · _) hregs

/-- A whole IPv6 header does too, with the cursor at 54. -/
theorem State.pastIpv6_inOrder (hst : s.status = 0x0000#16) (hpc : s.pc = 14) (hregs : s.regs = s.begunRegs.putEth e)
    (he : e.etherType = ethertypeIpv6) (hn : 40 ≤ s.remaining) : s.pastIpv6.InOrder := by
  have hend := s.pc_add_remaining (by omega)
  have hcur : s.pastIpv6.pc = 54 := congrArg (· + 40) hpc
  have hinside : s.pastIpv6.pc ≤ s.flen := by omega
  have hstatus : s.pastIpv6.status = 0x0008#16 := by
    rw [State.pastIpv6, hst]
    rfl
  exact ⟨.inr ⟨10, by decide, hcur⟩, hinside, e,
    .inr ⟨hstatus, he, hcur, s.ip6Header s.pc, congrArg (Regs.putIp6 · _) hregs⟩⟩

/-- Every layer-3 operation keeps the invariant at layer 3. -/
theorem State.InOrder.layer3 (hs : s.InOrder) (hp : s.phase = .layer3) {e : BitVec 16} (hsel : s.regs.ethType = some e)
    (hx : exec (decodeEthertype e) s = .next t) : t.InOrder := by
  have h := LayerEnds.of_exec (decodeEthertype_ne_decode e) hx
  obtain ⟨hst, hpc, hlen, x, hregs⟩ : s.status = 0x0000#16 ∧ s.pc = 14 ∧ 14 ≤ s.flen ∧
      ∃ x : EthHeader, s.regs = s.begunRegs.putEth x := by
    simpa only [State.AtPhase, hp] using hs.position
  obtain rfl : x.etherType = e := by simpa [hregs] using hsel
  have htrunc : s.enterTruncatedL3.InOrder := by
    refine ⟨hs.cursor, .inr ?_⟩
    rw [State.enterTruncatedL3_status hst]
    exact State.describes_truncatedL3 (congrArg (Regs.putView · _ _) hregs) (Nat.le_refl _) (Nat.add_sub_cancel' hlen)
  rcases decodeEthertype_cases x.etherType with ⟨he, e⟩ | ⟨he, e⟩ | ⟨h4, h6, e⟩ <;> rw [e] at h
  · cases h with
    | truncatedIpv4 => exact htrunc
    | ipv4 hn hl => exact State.pastIpv4_inOrder hst hpc hregs he hn hl
  · cases h with
    | truncatedIpv6 => exact htrunc
    | ipv6 hn => exact State.pastIpv6_inOrder hst hpc hregs he hn
  · cases h
    refine ⟨hs.cursor, State.atPhase_of_describes ?_ (.inr ⟨rfl, ?_⟩)⟩
    · rw [State.pastL3other_status hst]
      exact State.describes_l3other (t := s.pastL3other) (congrArg (Regs.putView · _ _) hregs) hpc.ge
        (Nat.add_sub_cancel' (hpc.le.trans hlen)) h4 h6
    · rw [State.pastL3other_status hst]
      rfl

/-- Every layer-4 operation keeps the invariant at layer 4. -/
theorem State.InOrder.layer4 (hs : s.InOrder) (hp : s.phase = .layer4) (hsel : s.regs.ipProto = some p)
    (hx : exec (decodeProtocol p) s = .next t) : t.InOrder := by
  have h := LayerEnds.of_exec (decodeProtocol_ne_decode p) hx
  obtain ⟨v6, hl⟩ := hs.position.layer4 hp
  have hcur := h.l4_keeps.2
  have hdone : s.status.done = false := by rw [hl.status]; cases v6 <;> rfl
  have hend : (t.phase = .idle ∧ t.status.done = true) ∨ (t.phase = .finish ∧ t.status.done = false) := by
    rcases layer4_outcome hx with rfl | ⟨hpt, hd⟩
    · exact .inl (State.endByException_done _ _).symm
    · exact .inr ⟨hpt, hd.trans hdone⟩
  exact ⟨by rw [State.PcLegal, hcur]; exact hs.cursor, State.atPhase_of_describes (hl.describes hsel h) hend⟩

/-- So does the last line of DECODE. -/
theorem State.InOrder.finish (hs : s.InOrder) (hp : s.phase = .finish) : s.finishDecode.InOrder := by
  have hpos := hs.position
  simp only [State.AtPhase, hp] at hpos
  obtain ⟨-, hm, hf, hh, hd, hv, h4, h6, ho, hi, ht, hu, hov⟩ := hpos
  exact ⟨hs.cursor, .inr ⟨hm, hf, hh, hd, hv, h4, h6, ho, hi, ht, hu, hov⟩⟩

/-! ## Every step keeps the invariant -/

/-- No layer operation leads back to a submitted frame. -/
theorem LayerEnds.phase_ne_submitted {i : Instr} (h : LayerEnds s i t) : t.phase ≠ .submitted := by
  cases h <;> nofun

/-- A step inside a DECODE taken layer by layer keeps the block in order, and inside it or not busy. -/
theorem State.InOrder.layer_step (hs : s.InOrder) (hp : s.phase ≠ .submitted) (hx : step s = .next t) :
    t.InOrder ∧ t.phase ≠ .submitted := by
  have hpos := hs.position
  cases hph : s.phase with
  | idle =>
    rw [step_idle s hph] at hx
    cases hx
    exact ⟨hs, hp⟩
  | submitted => exact absurd hph hp
  | layer2 =>
    rw [step_layer2 s hph] at hx
    exact ⟨hs.eth hph hx, (LayerEnds.of_exec (by decide) hx).phase_ne_submitted⟩
  | layer3 =>
    simp only [State.AtPhase, hph] at hpos
    obtain ⟨-, -, -, x, hregs⟩ := hpos
    have hsel : s.regs.ethType = some x.etherType := by rw [hregs]; rfl
    rw [step_layer3 s _ hph hsel] at hx
    exact ⟨hs.layer3 hph hsel hx, (LayerEnds.of_exec (decodeEthertype_ne_decode _) hx).phase_ne_submitted⟩
  | layer4 =>
    obtain ⟨v6, hl⟩ := hpos.layer4 hph
    obtain ⟨p, hsel⟩ := hl.selector
    rw [step_layer4 s p hph hsel] at hx
    exact ⟨hs.layer4 hph hsel hx, (LayerEnds.of_exec (decodeProtocol_ne_decode p) hx).phase_ne_submitted⟩
  | finish =>
    rw [step_finish s hph] at hx
    cases hx
    exact ⟨hs.finish hph, nofun⟩

/-- The first step of a run that answers a next state. -/
theorem run_succ_inv {k : Nat} (h : core.run (k + 1) s = .next t) :
    ∃ u, step s = .next u ∧ core.run k u = .next t := by
  cases hu : step s with
  | next u => exact ⟨u, rfl, (run_succ k hu).symm.trans h⟩
  | fault r =>
    have hc : core.step s = .fault r := hu
    simp [Host.Core.run, hc] at h
  | refused r =>
    have hc : core.step s = .refused r := hu
    simp [Host.Core.run, hc] at h

/-- What every step keeps holds after every run. -/
theorem run_keeps {P : State → Prop} (hP : ∀ s t, P s → step s = .next t → P t) (k : Nat) :
    ∀ s t, P s → core.run k s = .next t → P t := by
  induction k with
  | zero =>
    intro s t hs h
    cases h
    exact hs
  | succ k ih =>
    intro s t hs h
    obtain ⟨u, hu, hrun⟩ := run_succ_inv h
    exact ih u t (hP s u hs hu) hrun

/-- From any state a DECODE leaves the block in order: it is four steps from the begun state (R5, R150). -/
theorem inOrder_of_execDecode (h : execDecode s = .next t) : t.InOrder := by
  have hkeeps := run_keeps (P := fun u => u.InOrder ∧ u.phase ≠ .submitted) (fun _ _ hu => hu.1.layer_step hu.2) 4
  exact (hkeeps _ t ⟨s.beginDecode_inOrder, nofun⟩ ((run_beginDecode 0 s).trans h)).1

/-- Every step keeps the block in order, the atomic DECODE included. -/
theorem inOrder_of_step (hs : s.InOrder) (hx : step s = .next t) : t.InOrder := by
  by_cases hp : s.phase = .submitted
  · rw [step_submitted s hp] at hx
    exact inOrder_of_execDecode hx
  · exact (hs.layer_step hp hx).1

/-- No operation of a DECODE writes the frame, so DECODE does not. -/
theorem sameFrame_of_execDecode (h : execDecode s = .next t) : s.SameFrame t := by
  have f0 : s.SameFrame s.beginDecode := ⟨rfl, rfl, rfl⟩
  obtain ⟨s1, h1, hend⟩ := execDecode_inv h
  have f1 := f0.trans (LayerEnds.of_exec (by decide) h1).sameFrame
  rcases hend with ⟨-, rfl, -⟩ | ⟨x, s2, -, -, -, h2, hend⟩
  · exact f1
  · have f2 := f1.trans (LayerEnds.of_exec (decodeEthertype_ne_decode _) h2).sameFrame
    rcases hend with ⟨rfl, -⟩ | ⟨-, rfl⟩ | ⟨p, s3, -, -, -, h3, hend⟩
    · exact f2
    · exact f2.trans ⟨rfl, rfl, rfl⟩
    · have f3 := f2.trans (LayerEnds.of_exec (decodeProtocol_ne_decode _) h3).sameFrame
      rcases hend with ⟨rfl, -⟩ | ⟨-, rfl⟩
      · exact f3
      · exact f3.trans ⟨rfl, rfl, rfl⟩

/-- No step writes the frame. -/
theorem sameFrame_of_step (hx : step s = .next t) : s.SameFrame t := by
  rcases step_next_cases hx with rfl | rfl | ⟨i, hi⟩
  · exact ⟨rfl, rfl, rfl⟩
  · exact ⟨rfl, rfl, rfl⟩
  · by_cases hd : i = .decode
    · subst hd
      exact sameFrame_of_execDecode hi
    · exact (LayerEnds.of_exec hd hi).sameFrame

end

/-- Settles O21: position by position, what the operation there leaves is what the invariant says of the next position. -/
theorem everyStepKeepsTheInvariant : Obligations.EveryStepKeepsTheInvariant := by
  unfold Obligations.EveryStepKeepsTheInvariant
  intro s t hs hx
  obtain ⟨hwf, hin, ho⟩ := State.inv_iff.1 hs
  have hf := sameFrame_of_step hx
  exact State.inv_iff.2 ⟨by rw [hf.frame]; exact hwf, by rw [hf.frame, hf.flen]; exact hin, inOrder_of_step ho hx⟩

/-! ## DECODE: its explicit ends -/

section
variable {s t : State}

theorem State.SameFrame.ethHeader (h : s.SameFrame t) (a : Nat) : t.ethHeader a = s.ethHeader a :=
  State.ethHeader_congr fun _ _ => h.frameByte _

theorem State.SameFrame.ip4Header (h : s.SameFrame t) (a : Nat) : t.ip4Header a = s.ip4Header a :=
  State.ip4Header_congr fun _ _ _ => h.frameByte _

theorem State.SameFrame.ip6Header (h : s.SameFrame t) (a : Nat) : t.ip6Header a = s.ip6Header a :=
  State.ip6Header_congr fun _ _ => h.frameByte _

/-- A DECODE that has read a whole Ethernet header. -/
def State.atLayer3 (s : State) : State := s.beginDecode.pastEth

theorem State.atLayer3_sameFrame (s : State) : s.SameFrame s.atLayer3 := by
  constructor <;> simp [State.atLayer3, State.pastEth]

theorem State.atLayer3_pc (s : State) : s.atLayer3.pc = 14 := rfl

theorem State.atLayer3_remaining (s : State) : s.atLayer3.remaining = s.flen - 14 := by
  rw [State.remaining, s.atLayer3_sameFrame.flen, s.atLayer3_pc]

theorem State.atLayer3_status (s : State) : s.atLayer3.status = 0x0000#16 := rfl

theorem State.atLayer3_phase (s : State) : s.atLayer3.phase = .layer3 := rfl

theorem State.atLayer3_regs (s : State) : s.atLayer3.regs = s.begunRegs.putEth (s.ethHeader 0) := by
  have hf : s.SameFrame s.beginDecode := ⟨rfl, rfl, rfl⟩
  rw [State.atLayer3, State.pastEth, hf.ethHeader]
  rfl

theorem State.atLayer3_frameLen (s : State) : s.atLayer3.regs.frameLen = some s.flen := by
  rw [s.atLayer3_regs]
  rfl

/-- The ethertype of a frame is the selector ETH leaves (R71). -/
theorem State.atLayer3_ethType (s : State) : s.atLayer3.regs.ethType = some s.frameEthertype := by
  rw [s.atLayer3_regs, Regs.putEth_ethType, State.ethHeader, s.wordAt_16, State.frameEthertype]

/-- The IPv4 header length of a frame (R72). -/
theorem State.atLayer3_hlen (s : State) : (s.atLayer3.ip4Header 14).hlen.toNat = s.frameHlen := by
  rw [State.ip4Header_hlen_toNat, s.atLayer3_sameFrame.frameByte, State.frameHlen]

theorem State.overIpv4_regs (s : State) :
    s.atLayer3.pastIpv4.regs = (s.begunRegs.putEth (s.ethHeader 0)).putIp4 (s.ip4Header 14) := by
  rw [State.pastIpv4, State.goto_regs, State.setPc_regs, State.setStatus_regs, State.setRegs_regs, s.atLayer3_regs,
    s.atLayer3_pc, s.atLayer3_sameFrame.ip4Header]

theorem State.overIpv6_regs (s : State) :
    s.atLayer3.pastIpv6.regs = (s.begunRegs.putEth (s.ethHeader 0)).putIp6 (s.ip6Header 14) := by
  rw [State.pastIpv6, State.goto_regs, State.setPc_regs, State.setStatus_regs, State.setRegs_regs, s.atLayer3_regs,
    s.atLayer3_pc, s.atLayer3_sameFrame.ip6Header]

/-- The protocol number of an IPv4 frame is byte 9 of its header (R72). -/
theorem State.overIpv4_ipProto (s : State) : s.atLayer3.pastIpv4.regs.ipProto = some (s.frameByte 23) := by
  rw [s.overIpv4_regs]
  rfl

/-- The protocol number of an IPv6 frame is byte 6 of its header (R73). -/
theorem State.overIpv6_ipProto (s : State) : s.atLayer3.pastIpv6.regs.ipProto = some (s.frameByte 20) := by
  rw [s.overIpv6_regs]
  rfl

/-- The state in which layer 4 of a DECODE starts: over which IP, at which offset, and with which protocol number. -/
inductive Layer4Start (s : State) : Bool → Nat → BitVec 8 → State → Prop where
  | ipv4 (hl : 14 ≤ s.flen) (he : s.frameEthertype = ethertypeIpv4) (hn : 20 ≤ s.flen - 14)
      (hh : s.frameHlen ≤ s.flen - 14) :
      Layer4Start s false (14 + s.frameHlen) (s.frameByte 23) s.atLayer3.pastIpv4
  | ipv6 (hl : 14 ≤ s.flen) (he : s.frameEthertype = ethertypeIpv6) (hn : 40 ≤ s.flen - 14) :
      Layer4Start s true 54 (s.frameByte 20) s.atLayer3.pastIpv6

/-- The state a DECODE ends in, from any state. -/
inductive DecodeEnds (s : State) : State → Prop where
  | dropped (hn : s.flen < 14) : DecodeEnds s s.beginDecode.enterFrameTooShort
  | truncatedL3 (hl : 14 ≤ s.flen)
      (hn : s.frameEthertype = ethertypeIpv4 ∧ (s.flen - 14 < 20 ∨ s.flen - 14 < s.frameHlen) ∨
        s.frameEthertype = ethertypeIpv6 ∧ s.flen - 14 < 40) : DecodeEnds s s.atLayer3.enterTruncatedL3
  | l3other (hl : 14 ≤ s.flen) (h4 : s.frameEthertype ≠ ethertypeIpv4) (h6 : s.frameEthertype ≠ ethertypeIpv6) :
      DecodeEnds s s.atLayer3.pastL3other.finishDecode
  | layer4 {v6 : Bool} {l4 : Nat} {p : BitVec 8} {s2 u : State} (hs : Layer4Start s v6 l4 p s2)
      (h : LayerEnds s2 (decodeProtocol p) u) : DecodeEnds s u.finishDecode

/-- Layer 4 and the last line, from layer 4. -/
theorem run_layer4_ends (k : Nat) {p : BitVec 8} (hp : s.phase = .layer4) (hsel : s.regs.ipProto = some p) :
    ∃ u, LayerEnds s (decodeProtocol p) u ∧ core.run (k + 2) s = .next u.finishDecode := by
  obtain ⟨u, hu, h⟩ := layer_ends (decodeProtocol p) s (decodeProtocol_ne_decode p)
  refine ⟨u, h, (run_succ _ ((step_layer4 s p hp hsel).trans hu)).trans ?_⟩
  rcases layer4_outcome hu with rfl | ⟨hpu, -⟩
  · have hdone : s.enterTruncatedL4.finishDecode = s.enterTruncatedL4 :=
      congrArg (fun st => (s.enterTruncatedL4.setStatus st).goto .idle)
        (Status.setDone_of_done (State.endByException_done _ _).1)
    rw [hdone]
    exact run_idle _ _ rfl
  · exact run_finish k hpu

/-- From every state DECODE answers a next state, and it is one of these. -/
theorem execDecode_ends (s : State) : ∃ t, execDecode s = .next t ∧ DecodeEnds s t := by
  rw [← run_beginDecode 0 s]
  obtain ⟨u, hu, h⟩ := layer_ends .eth s.beginDecode (by decide)
  rw [run_succ _ ((step_layer2 _ s.beginDecode_phase).trans hu)]
  cases h with
  | dropped hn => exact ⟨_, run_idle _ _ rfl, .dropped hn⟩
  | eth hl =>
    obtain ⟨v, hv, h⟩ := layer_ends (decodeEthertype s.frameEthertype) s.atLayer3 (decodeEthertype_ne_decode _)
    have hrun : core.run 3 s.atLayer3 = core.run 2 v :=
      run_succ _ ((step_layer3 _ _ s.atLayer3_phase s.atLayer3_ethType).trans hv)
    have hlen := s.atLayer3_hlen
    have hrem := s.atLayer3_remaining
    rw [← State.atLayer3, hrun]
    rcases decodeEthertype_cases s.frameEthertype with ⟨he, e⟩ | ⟨he, e⟩ | ⟨h4, h6, e⟩ <;> rw [e] at h
    · cases h with
      | truncatedIpv4 hn =>
        rw [s.atLayer3_pc, hlen, hrem] at hn
        exact ⟨_, run_idle _ _ rfl, .truncatedL3 hl (.inl ⟨he, hn⟩)⟩
      | ipv4 hn hh =>
        rw [s.atLayer3_pc, hlen, hrem] at hh
        rw [hrem] at hn
        obtain ⟨u, hu, hrun⟩ := run_layer4_ends 0 rfl s.overIpv4_ipProto
        exact ⟨_, hrun, .layer4 (.ipv4 hl he hn hh) hu⟩
    · cases h with
      | truncatedIpv6 hn =>
        rw [hrem] at hn
        exact ⟨_, run_idle _ _ rfl, .truncatedL3 hl (.inr ⟨he, hn⟩)⟩
      | ipv6 hn =>
        rw [hrem] at hn
        obtain ⟨u, hu, hrun⟩ := run_layer4_ends 0 rfl s.overIpv6_ipProto
        exact ⟨_, hrun, .layer4 (.ipv6 hl he hn) hu⟩
    · cases h
      exact ⟨_, run_finish 1 rfl, .l3other hl h4 h6⟩

end

section
variable {s s2 t u : State} {v6 : Bool} {l4 : Nat} {p : BitVec 8}

/-! ## What layer 4 of a DECODE starts from -/

theorem State.pastIpv4_sameFrame (s : State) : s.SameFrame s.pastIpv4 := by
  constructor <;> simp [State.pastIpv4]

theorem State.pastIpv6_sameFrame (s : State) : s.SameFrame s.pastIpv6 := by
  constructor <;> simp [State.pastIpv6]

theorem Layer4Start.sameFrame (h : Layer4Start s v6 l4 p s2) : s.SameFrame s2 := by
  cases h with
  | ipv4 => exact s.atLayer3_sameFrame.trans s.atLayer3.pastIpv4_sameFrame
  | ipv6 => exact s.atLayer3_sameFrame.trans s.atLayer3.pastIpv6_sameFrame

theorem Layer4Start.status (h : Layer4Start s v6 l4 p s2) : s2.status = ipStatus v6 := by
  cases h with
  | ipv4 =>
    rw [State.pastIpv4, State.goto_status, State.setPc_status, State.setStatus_status, s.atLayer3_status]
    rfl
  | ipv6 =>
    rw [State.pastIpv6, State.goto_status, State.setPc_status, State.setStatus_status, s.atLayer3_status]
    rfl

theorem Layer4Start.pc (h : Layer4Start s v6 l4 p s2) : s2.pc = l4 := by
  cases h with
  | ipv4 => rw [State.pastIpv4, State.goto_pc, State.setPc_pc, s.atLayer3_pc, s.atLayer3_hlen]
  | ipv6 => rfl

theorem Layer4Start.regs (h : Layer4Start s v6 l4 p s2) : Regs.OverIp s.flen v6 s2.regs := by
  cases h with
  | ipv4 =>
    rw [s.overIpv4_regs]
    exact .ipv4 _ _
  | ipv6 =>
    rw [s.overIpv6_regs]
    exact .ipv6 _ _

theorem Layer4Start.frameLen (h : Layer4Start s v6 l4 p s2) : s2.regs.frameLen = some s.flen := by
  cases h <;> rfl

theorem Layer4Start.flen (h : Layer4Start s v6 l4 p s2) : 14 ≤ s.flen := by
  cases h <;> assumption

/-! ## The outcome tables of R34 and R154 -/

theorem State.SameFrame.frameDataOffset (h : s.SameFrame t) (l4 : Nat) : t.frameDataOffset l4 = s.frameDataOffset l4 := by
  rw [State.frameDataOffset, h.frameByte, State.frameDataOffset]

theorem State.SameFrame.l4Status (h : s.SameFrame t) (v6 : Bool) (l4 : Nat) (p : BitVec 8) :
    t.l4Status v6 l4 p = s.l4Status v6 l4 p := by
  rw [State.l4Status, h.flen, h.frameDataOffset, State.l4Status]

theorem State.SameFrame.l4ViewStart (h : s.SameFrame t) (l4 : Nat) (p : BitVec 8) :
    t.l4ViewStart l4 p = s.l4ViewStart l4 p := by
  rw [State.l4ViewStart, h.flen, h.frameDataOffset, State.l4ViewStart]

theorem State.outcome_truncatedL3 (hl : 14 ≤ s.flen)
    (hn : s.frameEthertype = ethertypeIpv4 ∧ (s.flen - 14 < 20 ∨ s.flen - 14 < s.frameHlen) ∨
      s.frameEthertype = ethertypeIpv6 ∧ s.flen - 14 < 40) :
    s.outcomeStatus = 0x0081#16 ∧ s.outcomeViewStart = 14 := by
  rcases hn with ⟨he, hn⟩ | ⟨he, hn⟩ <;>
    simp [State.outcomeStatus, State.outcomeViewStart, Nat.not_lt.2 hl, he, ethertypeIpv4, ethertypeIpv6, hn]

theorem State.outcome_l3other (hl : 14 ≤ s.flen) (h4 : s.frameEthertype ≠ ethertypeIpv4)
    (h6 : s.frameEthertype ≠ ethertypeIpv6) : s.outcomeStatus = 0x000D#16 ∧ s.outcomeViewStart = 14 := by
  simp only [ethertypeIpv4, ethertypeIpv6, ne_eq] at h4 h6
  simp [State.outcomeStatus, State.outcomeViewStart, Nat.not_lt.2 hl, h4, h6]

/-- Past a whole IP header the tables are those of layer 4. -/
theorem Layer4Start.outcome (h : Layer4Start s v6 l4 p s2) :
    s.outcomeStatus = s.l4Status v6 l4 p ∧ s.outcomeViewStart = s.l4ViewStart l4 p := by
  cases h with
  | ipv4 hl he hn hh =>
    have hn' : ¬ (s.flen - 14 < 20 ∨ s.flen - 14 < s.frameHlen) := by omega
    simp [State.outcomeStatus, State.outcomeViewStart, Nat.not_lt.2 hl, he, ethertypeIpv4, hn']
  | ipv6 hl he hn =>
    simp [State.outcomeStatus, State.outcomeViewStart, Nat.not_lt.2 hl, he, ethertypeIpv6, Nat.not_lt.2 hn]

/-- Layer 4 of a DECODE, in terms of the frame it decodes. -/
theorem Layer4Start.ends (hs : Layer4Start s v6 l4 p s2) (h : LayerEnds s2 (decodeProtocol p) u) :
    u.status.setDone = s.l4Status v6 l4 p ∧ u.regs.payOff = some (s.l4ViewStart l4 p) ∧
      u.regs.payLen = some (s.flen - s.l4ViewStart l4 p) ∧ u.regs.upToLayer3 = s2.regs.upToLayer3 := by
  obtain ⟨hst, hoff, hlen, -⟩ := h.l4_outcome v6 hs.status hs.regs
  rw [hs.sameFrame.l4Status, hs.pc] at hst
  rw [hs.sameFrame.l4ViewStart, hs.pc] at hoff hlen
  rw [hs.sameFrame.flen] at hlen
  exact ⟨hst, hoff, hlen, h.l4_keeps.1⟩

end

/-- Settles O40: DECODE ends in one of five ways, and each is a row of the tables. -/
theorem decodeFollowsTheOutcomeTables : Obligations.DecodeFollowsTheOutcomeTables := by
  unfold Obligations.DecodeFollowsTheOutcomeTables
  intro s
  obtain ⟨t, hx, h⟩ := execDecode_ends s
  refine ⟨t, hx, ?_⟩
  cases h with
  | dropped hn =>
    refine ⟨?_, rfl, fun _ => ⟨rfl, rfl⟩, fun hl => absurd hn (Nat.not_lt.2 hl)⟩
    rw [State.outcomeStatus, if_pos hn]
    exact State.enterFrameTooShort_status s.beginDecode_status
  | truncatedL3 hl hn =>
    obtain ⟨hst, hv⟩ := State.outcome_truncatedL3 hl hn
    rw [hst, hv]
    exact ⟨State.enterTruncatedL3_status s.atLayer3_status, s.atLayer3_frameLen, fun hn => absurd hn (Nat.not_lt.2 hl),
      fun _ => ⟨rfl, congrArg (fun n => some (n - 14)) s.atLayer3_sameFrame.flen⟩⟩
  | l3other hl h4 h6 =>
    obtain ⟨hst, hv⟩ := State.outcome_l3other hl h4 h6
    rw [hst, hv, State.finishDecode_status, State.pastL3other_status s.atLayer3_status]
    exact ⟨rfl, s.atLayer3_frameLen, fun hn => absurd hn (Nat.not_lt.2 hl),
      fun _ => ⟨rfl, congrArg some s.atLayer3_remaining⟩⟩
  | layer4 hs h =>
    obtain ⟨hst, hoff, hlen, hregs⟩ := hs.ends h
    obtain ⟨host, hv⟩ := hs.outcome
    rw [host, hv]
    exact ⟨hst, (congrArg Regs.frameLen hregs :).trans hs.frameLen, fun hn => absurd hn (Nat.not_lt.2 hs.flen),
      fun _ => ⟨hoff, hlen⟩⟩

section
variable {s s2 t u : State} {v6 : Bool} {l4 : Nat} {p : BitVec 8} {r : Regs}

/-! ## The fields a DECODE leaves (R26 to R32) -/

/-- Where layer 4 starts: after the IPv4 header, or at 54. -/
theorem Layer4Start.l4_eq (h : Layer4Start s v6 l4 p s2) : l4 = if v6 then 54 else 14 + s.frameHlen := by
  cases h <;> rfl

/-! Layer 4 keeps the groups before it, so registers that agree with those at its start up to layer 3 hold their fields. -/

theorem Layer4Start.ethFields (h : Layer4Start s v6 l4 p s2) (hr : r.upToLayer3 = s2.regs.upToLayer3) :
    r.ethDst = some (s.wordAt 48 0) ∧ r.ethSrc = some (s.wordAt 48 6) ∧ r.ethType = some (s.wordAt 16 12) := by
  have hdst := congrArg Regs.ethDst hr
  have hsrc := congrArg Regs.ethSrc hr
  have htype := congrArg Regs.ethType hr
  cases h with
  | ipv4 =>
    rw [s.overIpv4_regs] at hdst hsrc htype
    exact ⟨hdst, hsrc, htype⟩
  | ipv6 =>
    rw [s.overIpv6_regs] at hdst hsrc htype
    exact ⟨hdst, hsrc, htype⟩

theorem Layer4Start.ip4Fields (h : Layer4Start s false l4 p s2) (hr : r.upToLayer3 = s2.regs.upToLayer3) :
    r.ipVer = some ((s.frameByte 14).extractLsb' 4 4) ∧ r.ip4Hlen = some (BitVec.ofNat 6 s.frameHlen) ∧
      r.ip4Ttl = some (s.frameByte 22) ∧ r.ipProto = some (s.frameByte 23) ∧ r.ip4Src = some (s.wordAt 32 26) ∧
      r.ip4Dst = some (s.wordAt 32 30) := by
  have hlen : (s.ip4Header 14).hlen = BitVec.ofNat 6 s.frameHlen := by
    rw [State.frameHlen, ← s.ip4Header_hlen_toNat 14, BitVec.ofNat_toNat, BitVec.setWidth_eq]
  cases h with
  | ipv4 =>
    rw [s.overIpv4_regs] at hr
    rw [← hlen]
    exact ⟨(congrArg Regs.ipVer hr :), (congrArg Regs.ip4Hlen hr :), (congrArg Regs.ip4Ttl hr :),
      (congrArg Regs.ipProto hr :), (congrArg Regs.ip4Src hr :), (congrArg Regs.ip4Dst hr :)⟩

theorem Layer4Start.ip6Fields (h : Layer4Start s true l4 p s2) (hr : r.upToLayer3 = s2.regs.upToLayer3) :
    r.ipVer = some ((s.wordAt 32 14).extractLsb' 28 4) ∧ r.ip6Tc = some ((s.wordAt 32 14).extractLsb' 20 8) ∧
      r.ip6Flow = some ((s.wordAt 32 14).extractLsb' 0 20) ∧ r.ip6Plen = some (s.wordAt 16 18) ∧
      r.ipProto = some (s.frameByte 20) ∧ r.ip6Hlim = some (s.frameByte 21) ∧
      r.ip6Src = some (s.wordAt 128 22) ∧ r.ip6Dst = some (s.wordAt 128 38) := by
  cases h with
  | ipv6 =>
    rw [s.overIpv6_regs] at hr
    exact ⟨(congrArg Regs.ipVer hr :), (congrArg Regs.ip6Tc hr :), (congrArg Regs.ip6Flow hr :),
      (congrArg Regs.ip6Plen hr :), (congrArg Regs.ipProto hr :), (congrArg Regs.ip6Hlim hr :),
      (congrArg Regs.ip6Src hr :), (congrArg Regs.ip6Dst hr :)⟩

/-- The TCP flags are the low six bits of byte 13 of the header (R75, R134). -/
theorem State.tcpHeader_flags (s : State) (a : Nat) :
    (s.tcpHeader a).flags = (s.frameByte (a + 13)).extractLsb' 0 6 := by
  rw [State.tcpHeader, s.wordAt_16 (a + 12), BitVec.extractLsb'_append_eq_of_add_le (start := 0) (len := 6) (by decide)]

theorem State.tcpHeader_hlen (s : State) (a : Nat) : (s.tcpHeader a).hlen = BitVec.ofNat 6 (s.frameDataOffset a) := by
  rw [← State.tcpHeader_hlen_toNat, BitVec.ofNat_toNat, BitVec.setWidth_eq]

/-- A completed transport operation leaves the fields of the header at its cursor. -/
theorem LayerEnds.l4_fields (h : LayerEnds s (decodeProtocol p) t) (v6 : Bool) :
    ((s.l4Status v6 s.pc p).isL4 .icmp = true → t.regs.icmpType = some (s.frameByte s.pc) ∧
        t.regs.icmpCode = some (s.frameByte (s.pc + 1)) ∧ t.regs.icmpCsum = some (s.wordAt 16 (s.pc + 2))) ∧
      ((s.l4Status v6 s.pc p).isL4 .tcp = true → t.regs.tcpSport = some (s.wordAt 16 s.pc) ∧
        t.regs.tcpDport = some (s.wordAt 16 (s.pc + 2)) ∧ t.regs.tcpSeq = some (s.wordAt 32 (s.pc + 4)) ∧
        t.regs.tcpAck = some (s.wordAt 32 (s.pc + 8)) ∧
        t.regs.tcpHlen = some (BitVec.ofNat 6 (s.frameDataOffset s.pc)) ∧
        t.regs.tcpFlags = some ((s.frameByte (s.pc + 13)).extractLsb' 0 6)) ∧
      ((s.l4Status v6 s.pc p).isL4 .udp = true → t.regs.udpSport = some (s.wordAt 16 s.pc) ∧
        t.regs.udpDport = some (s.wordAt 16 (s.pc + 2)) ∧ t.regs.udpLen = some (s.wordAt 16 (s.pc + 4)) ∧
        t.regs.udpCsum = some (s.wordAt 16 (s.pc + 6))) := by
  obtain ⟨hicmp, htcp, hudp, -⟩ := State.l4Status_kind v6 s s.pc p
  refine ⟨fun hk => ?_, fun hk => ?_, fun hk => ?_⟩
  · obtain ⟨rfl, hn⟩ := hicmp hk
    cases h with
    | truncatedIcmp hn' => exact absurd hn (Nat.not_le.2 hn')
    | icmp => exact ⟨rfl, rfl, rfl⟩
  · obtain ⟨rfl, hn⟩ := htcp hk
    rw [← s.tcpHeader_hlen, ← s.tcpHeader_flags]
    cases h with
    | truncatedTcp hn' => exact absurd hn (Nat.not_le.2 hn')
    | tcp => exact ⟨rfl, rfl, rfl, rfl, rfl, rfl⟩
    | tcpOverrun => exact ⟨rfl, rfl, rfl, rfl, rfl, rfl⟩
  · obtain ⟨rfl, hn⟩ := hudp hk
    cases h with
    | truncatedUdp hn' => exact absurd hn (Nat.not_le.2 hn')
    | udp => exact ⟨rfl, rfl, rfl, rfl⟩

end

/-- Settles O41: the groups written before layer 4 stay, and layer 4 starts where the statement reads its header. -/
theorem decodeLeavesTheFieldsOfTheFrame : Obligations.DecodeLeavesTheFieldsOfTheFrame := by
  unfold Obligations.DecodeLeavesTheFieldsOfTheFrame
  intro s
  obtain ⟨t, hx, h⟩ := execDecode_ends s
  refine ⟨t, hx, ?_⟩
  cases h with
  | dropped hn =>
    rw [State.enterFrameTooShort_status s.beginDecode_status]
    exact ⟨fun hl => absurd hn (Nat.not_lt.2 hl), nofun, nofun, fun _ _ => ⟨nofun, nofun, nofun⟩⟩
  | truncatedL3 =>
    rw [State.enterTruncatedL3_status s.atLayer3_status]
    refine ⟨fun _ => ?_, nofun, nofun, fun _ _ => ⟨nofun, nofun, nofun⟩⟩
    rw [State.enterTruncatedL3, State.endByException_regs, State.setView_regs, s.atLayer3_regs]
    exact ⟨rfl, rfl, rfl⟩
  | l3other =>
    rw [State.finishDecode_status, State.pastL3other_status s.atLayer3_status]
    refine ⟨fun _ => ?_, nofun, nofun, fun _ _ => ⟨nofun, nofun, nofun⟩⟩
    rw [State.finishDecode_regs, State.pastL3other, State.goto_regs, State.setStatus_regs, State.setView_regs,
      s.atLayer3_regs]
    exact ⟨rfl, rfl, rfl⟩
  | @layer4 v6 l4 p s2 u hs h =>
    obtain ⟨hst, -, -, hregs⟩ := hs.ends h
    obtain ⟨-, -, hv4, hv6, -⟩ := State.l4Status_ip v6 s l4 p
    rw [State.finishDecode_status, State.finishDecode_regs, hst, hv4, hv6]
    refine ⟨fun _ => hs.ethFields hregs, fun hk => ?_, fun hk => ?_, fun l4' he => ?_⟩
    · obtain rfl : v6 = false := by simpa using hk
      exact hs.ip4Fields hregs
    · subst hk
      exact hs.ip6Fields hregs
    · have hl4 : l4' = l4 := by
        rw [he, hs.l4_eq]
        cases v6 <;> rfl
      have hf := h.l4_fields v6
      simp only [hs.pc, hs.sameFrame.l4Status, hs.sameFrame.frameByte, hs.sameFrame.wordAt,
        hs.sameFrame.frameDataOffset] at hf
      rw [hl4]
      exact hf

/-! ## What a finished DECODE says of its registers -/

section
variable {s t : State}

theorem DecodeEnds.ended (h : DecodeEnds s t) : t.phase = .idle ∧ t.status.done = true := by
  cases h with
  | dropped | truncatedL3 => exact (State.endByException_done _ _).symm
  | l3other | layer4 => exact ⟨rfl, Status.done_setDone _⟩

/-- Once `DONE` is 1 the block is not busy, and STATUS describes the registers. -/
theorem State.InOrder.describes_of_done (hs : s.InOrder) (hd : s.status.done = true) :
    s.phase = .idle ∧ s.Describes s.status := by
  have hpos := hs.position
  have hzero : s.status ≠ 0x0000#16 := by
    intro h
    rw [h] at hd
    exact absurd hd (by decide)
  cases hp : s.phase with
  | idle =>
    simp only [State.AtPhase, hp] at hpos
    exact ⟨rfl, hpos.resolve_left fun h => hzero h.1⟩
  | submitted | layer2 | layer3 =>
    simp only [State.AtPhase, hp] at hpos
    exact absurd hpos.1 hzero
  | layer4 =>
    obtain ⟨v6, hl⟩ := hpos.layer4 hp
    rw [hl.status] at hd
    cases v6 <;> exact absurd hd (by decide)
  | finish =>
    simp only [State.AtPhase, hp] at hpos
    simp [hpos.1] at hd

/-- From any state, what a DECODE leaves is described by its STATUS. -/
theorem describes_of_execDecode (hx : execDecode s = .next t) : t.Describes t.status := by
  obtain ⟨u, hu, h⟩ := execDecode_ends s
  cases hx.symm.trans hu
  exact ((inOrder_of_execDecode hx).describes_of_done h.ended.2).2

/-- Before `DONE` STATUS lists no register (R35). -/
theorem Status.lists_of_not_done {st : Status} (hd : st.done = false) (x : Reg) : st.lists x = false := by
  cases x <;> simp [Status.lists, hd]

end

/-- Settles O43: R35 is part of what the invariant says of a finished DECODE. -/
theorem registersHoldAsStatusSays : Obligations.RegistersHoldAsStatusSays := by
  unfold Obligations.RegistersHoldAsStatusSays
  intro s
  obtain ⟨t, hx, -⟩ := execDecode_ends s
  exact ⟨t, hx, (describes_of_execDecode hx).holds_iff⟩

/-- Settles O5: with `DONE` the block is not busy. -/
theorem resultStaysUntilNextSubmit : Obligations.ResultStaysUntilNextSubmit := by
  unfold Obligations.ResultStaysUntilNextSubmit
  intro s hs hd
  exact step_idle s ((State.inv_iff.1 hs).2.2.describes_of_done hd).1

/-- Settles O6: with `DONE` STATUS describes the registers, and before it neither reads nor lists any. -/
theorem hostReadsExactlyWhatStatusLists : Obligations.HostReadsExactlyWhatStatusLists := by
  unfold Obligations.HostReadsExactlyWhatStatusLists
  intro s hs x
  cases hd : s.status.done with
  | true =>
    rw [State.hostRead, if_pos hd]
    exact ((State.inv_iff.1 hs).2.2.describes_of_done hd).2.holds_iff x
  | false =>
    rw [Status.lists_of_not_done hd x]
    simp [State.hostRead, hd]

/-- What the fifteen STATUS values have in common: OTHER is not dropped, and a truncation names the layers before it. -/
theorem doneStatuses_kinds : ∀ st ∈ doneStatuses,
    (st.isL3 .other = true → st.drop = false) ∧ (st.isTrunc .l3 = true → st.isL3 .none = true) ∧
      (st.isTrunc .l4 = true → (st.isL3 .v4 = true ∨ st.isL3 .v6 = true) ∧ st.isL4 .none = true) := by
  intro st h
  simp only [doneStatuses, List.mem_cons, List.not_mem_nil, or_false] at h
  rcases h with rfl | rfl | rfl | rfl | rfl | rfl | rfl | rfl | rfl | rfl | rfl | rfl | rfl | rfl | rfl <;> decide

section
variable {s t : State}

/-- A frame that is not dropped and has neither IP ethertype is of kind OTHER. -/
theorem DecodeEnds.isL3_other (h : DecodeEnds s t) (hd : t.status.drop = false)
    (h4 : t.regs.ethType ≠ some ethertypeIpv4) (h6 : t.regs.ethType ≠ some ethertypeIpv6) :
    t.status.isL3 .other = true := by
  cases h with
  | dropped =>
    rw [State.enterFrameTooShort_status s.beginDecode_status] at hd
    exact absurd hd (by decide)
  | truncatedL3 hl hn =>
    have he : s.atLayer3.enterTruncatedL3.regs.ethType = some s.frameEthertype := s.atLayer3_ethType
    rcases hn with ⟨e, -⟩ | ⟨e, -⟩
    · exact absurd (he.trans (congrArg some e)) h4
    · exact absurd (he.trans (congrArg some e)) h6
  | l3other =>
    rw [State.finishDecode_status, State.pastL3other_status s.atLayer3_status]
    rfl
  | layer4 hs h =>
    have he := (hs.ethFields h.l4_keeps.1).2.2.trans (congrArg some (s.wordAt_16 12))
    cases hs with
    | ipv4 _ e => exact absurd (he.trans (congrArg some e)) h4
    | ipv6 _ e => exact absurd (he.trans (congrArg some e)) h6

/-- DOFF_OVR is left by a TCP header alone, whose data offset runs over the end of the frame (R133). -/
theorem DecodeEnds.overrun (h : DecodeEnds s t) (ho : t.status.doffOvr = true) :
    t.status.isL4 .tcp = true ∧ t.regs.payLen = some 0 ∧
      ∃ x, t.regs.tcpHlen = some x ∧ s.flen - t.pc < x.toNat := by
  cases h with
  | dropped =>
    rw [State.enterFrameTooShort_status s.beginDecode_status] at ho
    exact absurd ho (by decide)
  | truncatedL3 =>
    rw [State.enterTruncatedL3_status s.atLayer3_status] at ho
    exact absurd ho (by decide)
  | l3other =>
    rw [State.finishDecode_status, State.pastL3other_status s.atLayer3_status] at ho
    exact absurd ho (by decide)
  | @layer4 v6 l4 p s2 u hs h =>
    obtain ⟨hst, -, hlen, -⟩ := hs.ends h
    rw [State.finishDecode_status, hst] at ho ⊢
    obtain ⟨rfl, hn, hoff⟩ := (State.l4Status_kind v6 s l4 p).2.2.2 ho
    obtain ⟨hrow, hview⟩ := State.l4_tcpOverrun v6 hn hoff
    have htcp : (s.l4Status v6 l4 protoTcp).isL4 .tcp = true := by
      rw [hrow]
      cases v6 <;> rfl
    have hfields := (h.l4_fields v6).2.1
    rw [hs.sameFrame.l4Status, hs.pc, ← State.tcpHeader_hlen] at hfields
    obtain ⟨-, -, -, -, hx, -⟩ := hfields htcp
    rw [hview, Nat.sub_self] at hlen
    refine ⟨htcp, hlen, _, hx, ?_⟩
    rw [State.tcpHeader_hlen_toNat, hs.sameFrame.frameDataOffset, State.finishDecode_pc, h.l4_keeps.2, hs.pc]
    exact hoff

end

/-- Settles O47: the invariant says what the kinds mean; the ends of DECODE say that no other frame has kind OTHER, and
what an overrun leaves. -/
theorem kindsAgreeWithSelectors : Obligations.KindsAgreeWithSelectors := by
  unfold Obligations.KindsAgreeWithSelectors
  intro s t hx
  have d := describes_of_execDecode hx
  obtain ⟨u, hu, h⟩ := execDecode_ends s
  cases hx.symm.trans hu
  obtain ⟨hother, htrunc3, htrunc4⟩ := doneStatuses_kinds _ d.status_mem
  rw [← (sameFrame_of_execDecode hx).flen]
  refine ⟨d.v4, d.v6, ⟨fun hk => ⟨hother hk, d.other hk⟩, fun ⟨hd, h4, h6⟩ => h.isL3_other hd h4 h6⟩, d.icmp, d.tcp,
    d.udp, htrunc3, htrunc4, fun ho => ?_⟩
  rw [(sameFrame_of_execDecode hx).flen]
  exact h.overrun ho

/-! ## A layer operation reads its footprint only (R55, R161) -/

section
variable {s t : State} {a : Nat}

/-- The state with another frame of the same length. -/
def State.onFrame (s : State) (m : Memory) (e : Nat) : State := { s with frame := m, epoch := e }

variable {m : Memory} {e : Nat}

theorem State.onFrame_ip4Header (ha : ∀ a ∈ Instr.ipv4.footprint s.pc, a < s.flen →
    (s.onFrame m e).frameByte a = s.frameByte a) (hn : 20 ≤ s.remaining) :
    (s.onFrame m e).ip4Header (s.onFrame m e).pc = s.ip4Header s.pc := by
  have hend := s.pc_add_remaining (by omega)
  refine State.ip4Header_congr (a := s.pc) fun i hi hread => ha _ (List.mem_map_of_mem ?_) (by omega)
  simp only [List.mem_cons, List.not_mem_nil, or_false]
  omega

theorem State.onFrame_tcpHeader (ha : ∀ a ∈ Instr.tcp.footprint s.pc, a < s.flen →
    (s.onFrame m e).frameByte a = s.frameByte a) (hn : 14 ≤ s.remaining) :
    (s.onFrame m e).tcpHeader (s.onFrame m e).pc = s.tcpHeader s.pc := by
  have hend := s.pc_add_remaining (by omega)
  exact State.tcpHeader_congr (a := s.pc) fun i hi => ha _ (List.mem_map_of_mem (List.mem_range.2 hi)) (by omega)

/-- With another frame that agrees on the footprint an operation does the same. -/
theorem LayerEnds.onFrame {i : Instr} (h : LayerEnds s i t)
    (ha : ∀ a ∈ i.footprint s.pc, a < s.flen → (s.onFrame m e).frameByte a = s.frameByte a) :
    LayerEnds (s.onFrame m e) i (t.onFrame m e) := by
  have hend := s.pc_add_remaining
  cases h with
  | dropped hn => exact .dropped hn
  | eth hn =>
    have hh : (s.onFrame m e).ethHeader 0 = s.ethHeader 0 :=
      State.ethHeader_congr fun i hi => ha _ (List.mem_range.2 (by omega)) (by omega)
    have hu : (s.onFrame m e).pastEth = s.pastEth.onFrame m e := by
      rw [State.pastEth, hh]
      rfl
    exact hu ▸ .eth hn
  | truncatedIpv4 hn =>
    by_cases hshort : s.remaining < 20
    · exact .truncatedIpv4 (.inl hshort)
    · refine .truncatedIpv4 (.inr ?_)
      rw [State.onFrame_ip4Header ha (Nat.not_lt.1 hshort)]
      exact hn.resolve_left hshort
  | ipv4 hn hl =>
    have hh := State.onFrame_ip4Header ha hn
    have hu : (s.onFrame m e).pastIpv4 = s.pastIpv4.onFrame m e := by
      rw [State.pastIpv4, hh]
      rfl
    refine hu ▸ .ipv4 hn ?_
    rw [hh]
    exact hl
  | truncatedIpv6 hn => exact .truncatedIpv6 hn
  | ipv6 hn =>
    have hh : (s.onFrame m e).ip6Header (s.onFrame m e).pc = s.ip6Header s.pc :=
      State.ip6Header_congr (a := s.pc) fun i hi => ha _ (List.mem_map_of_mem (List.mem_range.2 hi)) (by omega)
    have hu : (s.onFrame m e).pastIpv6 = s.pastIpv6.onFrame m e := by
      rw [State.pastIpv6, hh]
      rfl
    exact hu ▸ .ipv6 hn
  | l3other e => exact .l3other e
  | truncatedIcmp hn => exact .truncatedIcmp hn
  | icmp hn =>
    have hh : (s.onFrame m e).icmpHeader (s.onFrame m e).pc = s.icmpHeader s.pc :=
      State.icmpHeader_congr (a := s.pc) fun i hi => ha _ (List.mem_map_of_mem (List.mem_range.2 hi)) (by omega)
    have hu : (s.onFrame m e).pastIcmp = s.pastIcmp.onFrame m e := by
      rw [State.pastIcmp, hh]
      rfl
    exact hu ▸ .icmp hn
  | truncatedTcp hn => exact .truncatedTcp hn
  | tcp hn ho =>
    have hh := State.onFrame_tcpHeader ha hn
    have hu : (s.onFrame m e).pastTcp = s.pastTcp.onFrame m e := by
      rw [State.pastTcp, State.tcpFields, hh]
      rfl
    refine hu ▸ .tcp hn ?_
    rw [hh]
    exact ho
  | tcpOverrun hn ho =>
    have hh := State.onFrame_tcpHeader ha hn
    have hu : (s.onFrame m e).pastTcpOverrun = s.pastTcpOverrun.onFrame m e := by
      rw [State.pastTcpOverrun, State.tcpFields, hh]
      rfl
    refine hu ▸ .tcpOverrun hn ?_
    rw [hh]
    exact ho
  | truncatedUdp hn => exact .truncatedUdp hn
  | udp hn =>
    have hh : (s.onFrame m e).udpHeader (s.onFrame m e).pc = s.udpHeader s.pc :=
      State.udpHeader_congr (a := s.pc) fun i hi => ha _ (List.mem_map_of_mem (List.mem_range.2 hi)) (by omega)
    have hu : (s.onFrame m e).pastUdp = s.pastUdp.onFrame m e := by
      rw [State.pastUdp, hh]
      rfl
    exact hu ▸ .udp hn
  | l4other p => exact .l4other p

/-- A layer-3 operation reads within 40 bytes of its cursor. -/
theorem lt_of_mem_footprint_layer3 {x : BitVec 16} {pc : Nat} (h : a ∈ (decodeEthertype x).footprint pc) :
    a < pc + 40 := by
  rcases decodeEthertype_cases x with ⟨-, e⟩ | ⟨-, e⟩ | ⟨-, -, e⟩ <;> rw [e] at h
  · obtain ⟨i, hi, rfl⟩ := List.mem_map.1 h
    simp only [List.mem_cons, List.not_mem_nil, or_false] at hi
    omega
  · obtain ⟨i, hi, rfl⟩ := List.mem_map.1 h
    exact Nat.add_lt_add_left (List.mem_range.1 hi) pc
  · cases h

/-- A layer-4 operation reads within 14 bytes of its cursor. -/
theorem lt_of_mem_footprint_layer4 {p : BitVec 8} {pc : Nat} (h : a ∈ (decodeProtocol p).footprint pc) :
    a < pc + 14 := by
  have hwithin {n : Nat} (hn : n ≤ 14) (h : a ∈ (List.range n).map (pc + ·)) : a < pc + 14 := by
    obtain ⟨i, hi, rfl⟩ := List.mem_map.1 h
    exact Nat.add_lt_add_left ((List.mem_range.1 hi).trans_le hn) pc
  rcases decodeProtocol_cases p with ⟨-, e⟩ | ⟨-, e⟩ | ⟨-, e⟩ | ⟨-, -, -, e⟩ <;> rw [e] at h
  · exact hwithin (by decide) h
  · exact hwithin (by decide) h
  · exact hwithin (by decide) h
  · cases h

/-- The operation a block in order does next is no composite, and reads below 88 only (R161). -/
theorem State.InOrder.fetch_footprint (hs : s.InOrder) (hp : s.phase ≠ .submitted) {i : Instr}
    (hf : s.fetch = .instr i) : i ≠ .decode ∧ ∀ a ∈ i.footprint s.pc, a < 88 := by
  have hpos := hs.position
  cases hph : s.phase with
  | idle | finish => simp [State.fetch, hph] at hf
  | submitted => exact absurd hph hp
  | layer2 =>
    obtain rfl : .eth = i := by simpa [State.fetch, hph, selectFrom, decodeBytes] using hf
    exact ⟨nofun, fun a ha => (List.mem_range.1 ha).trans (by decide)⟩
  | layer3 =>
    simp only [State.AtPhase, hph] at hpos
    obtain ⟨-, hpc, -, x, hregs⟩ := hpos
    have hsel : s.regs.ethType = some x.etherType := by rw [hregs]; rfl
    cases (s.fetch_layer3 _ hph hsel).symm.trans hf
    exact ⟨decodeEthertype_ne_decode _, fun a ha => (lt_of_mem_footprint_layer3 ha).trans_le (by omega)⟩
  | layer4 =>
    obtain ⟨v6, hl⟩ := hpos.layer4 hph
    obtain ⟨p, hsel⟩ := hl.selector
    have hpc : s.pc ≤ 74 := by
      rcases hs.cursor with h | ⟨k, hk, h⟩ <;> omega
    cases (s.fetch_layer4 _ hph hsel).symm.trans hf
    exact ⟨decodeProtocol_ne_decode _, fun a ha => (lt_of_mem_footprint_layer4 ha).trans_le (by omega)⟩

/-- Another frame that agrees with the frame of `s` below 88. -/
def State.AgreesBelow88 (s : State) (m : Memory) (e : Nat) : Prop :=
  ∀ a < 88, a < s.flen → (s.onFrame m e).frameByte a = s.frameByte a

/-- A step inside a DECODE does the same on a frame that agrees below 88. -/
theorem State.InOrder.step_onFrame (hs : s.InOrder) (hp : s.phase ≠ .submitted) (ha : s.AgreesBelow88 m e)
    (hx : step s = .next t) : step (s.onFrame m e) = .next (t.onFrame m e) := by
  have hfetch : (s.onFrame m e).fetch = s.fetch := rfl
  cases hf : s.fetch with
  | nothing =>
    simp only [step, hf] at hx
    cases hx
    simp only [step, hfetch, hf]
  | lastLine =>
    simp only [step, hf] at hx
    cases hx
    simp only [step, hfetch, hf]
    rfl
  | instr i =>
    obtain ⟨hi, hfoot⟩ := hs.fetch_footprint hp hf
    simp only [step, hf] at hx
    simp only [step, hfetch, hf]
    have hends := (LayerEnds.of_exec hi hx).onFrame fun a hm hl => ha a (hfoot a hm) hl
    exact hends.exec_eq hi
  | noSelector =>
    simp only [step, hf] at hx
    cases hx

/-- So does a run of steps. -/
theorem run_onFrame (k : Nat) : ∀ s t : State, s.InOrder → s.phase ≠ .submitted → s.AgreesBelow88 m e →
    core.run k s = .next t → core.run k (s.onFrame m e) = .next (t.onFrame m e) := by
  induction k with
  | zero =>
    intro s t _ _ _ h
    cases h
    rfl
  | succ k ih =>
    intro s t hs hp ha h
    obtain ⟨u, hu, hrun⟩ := run_succ_inv h
    obtain ⟨hus, hup⟩ := hs.layer_step hp hu
    have hf := sameFrame_of_step hu
    have hua : u.AgreesBelow88 m e := fun a h88 hl => (ha a h88 (hf.flen ▸ hl)).trans (hf.frameByte a).symm
    exact (run_succ k (hs.step_onFrame hp ha hu)).trans (ih u t hus hup hua hrun)

/-- And so does DECODE. -/
theorem execDecode_onFrame (ha : s.AgreesBelow88 m e) (hx : execDecode s = .next t) :
    execDecode (s.onFrame m e) = .next (t.onFrame m e) := by
  rw [← run_beginDecode 0] at hx ⊢
  exact run_onFrame 4 s.beginDecode t s.beginDecode_inOrder nofun ha hx

/-- DECODE clears what was decoded before: of its state it takes the frame and FLEN alone (R36, R150). -/
theorem execDecode_congr (hf : s.SameFrame t) : execDecode t = execDecode s := by
  have hbegin : t.beginDecode = s.beginDecode := by
    simp only [State.beginDecode, State.clearResult, State.setRegs, State.setStatus, State.setPc, State.goto, hf.frame,
      hf.flen, hf.epoch]
  rw [execDecode, hbegin, execDecode]

end

/-- Settles O49: the begun state holds nothing but the frame, and from there every step reads below 88 only. -/
theorem decodeDependsOnTheFrameAlone : Obligations.DecodeDependsOnTheFrameAlone := by
  unfold Obligations.DecodeDependsOnTheFrameAlone
  intro s1 s2 hl ha
  obtain ⟨t1, hx, -⟩ := execDecode_ends s1
  have hx2 := execDecode_onFrame (m := s2.frame) (e := s2.epoch) (fun a h88 h => (ha a h88 h).symm) hx
  have hf : (s1.onFrame s2.frame s2.epoch).SameFrame s2 := ⟨rfl, hl.symm, rfl⟩
  exact ⟨t1, _, hx, (execDecode_congr hf).trans hx2, rfl, rfl, rfl, rfl⟩

/-! ## Reset, submit and selection -/

/-- Settles O1: reset empties every register. -/
theorem resetStateHoldsNoResult : Obligations.ResetStateHoldsNoResult := by
  unfold Obligations.ResetStateHoldsNoResult
  exact ⟨rfl, rfl, rfl, Regs.read_empty⟩

/-- Settles O22: the block is not busy, with nothing decoded. -/
theorem resetMeetsTheInvariant : Obligations.ResetMeetsTheInvariant := by
  unfold Obligations.ResetMeetsTheInvariant
  exact ⟨State.reset_frame_wf, nofun, .inl rfl, .inl ⟨rfl, rfl⟩⟩

/-- Settles O3: a submit loads consecutive bytes from offset 0, so the byte at each offset is the one given. -/
theorem submitHandsOverTheFrame : Obligations.SubmitHandsOverTheFrame := by
  unfold Obligations.SubmitHandsOverTheFrame
  intro flenBits s bytes hb hl
  have hfind (a : Nat) : Memory.find (Memory.ofBytes 0 (bytes.take bytes.length)) a = bytes[a]? := by
    rw [List.take_length, ← Memory.find_ofBytes bytes 0 a, Nat.zero_add]
  refine ⟨_, submit_eq s flenBits bytes.length bytes hb hl, rfl, rfl, fun a ha => ?_, fun i hi => ?_, rfl,
    Regs.read_empty, step_submitted _ rfl⟩
  · rw [hfind, List.getElem?_eq_getElem ha]
    rfl
  · rw [State.frameByte, Nat.zero_add, hfind, List.getElem?_eq_getElem hi]
    rfl

/-- Settles O23: reset and submit leave an empty result, and a submit loads a canonical frame. -/
theorem hostActionsKeepTheInvariant : Obligations.HostActionsKeepTheInvariant := by
  unfold Obligations.HostActionsKeepTheInvariant
  intro s hs
  refine ⟨⟨hs.memory, hs.inFrame, .inl rfl, .inl ⟨rfl, rfl⟩⟩, fun flenBits bytes flen t hx => ?_, fun _ => ?_⟩
  · obtain ⟨-, -, rfl⟩ := submit_next hx
    refine ⟨Memory.wf_ofBytes _, fun c hc => ?_, hs.cursor, rfl, rfl⟩
    have hin := (Memory.mem_ofBytes _ 0 c hc).2
    rw [Nat.zero_add] at hin
    exact hin.trans_le (List.length_take_le _ _)
  · exact State.inv_iff.2 ⟨hs.memory, hs.inFrame, s.beginDecode_inOrder⟩

theorem decodeEthertype_wf (e : BitVec 16) : (decodeEthertype e).wf = true := by
  rcases decodeEthertype_cases e with ⟨-, h⟩ | ⟨-, h⟩ | ⟨h4, h6, h⟩ <;> rw [h]
  · rfl
  · rfl
  · simpa [Instr.wf] using ⟨h4, h6⟩

theorem decodeProtocol_wf (p : BitVec 8) : (decodeProtocol p).wf = true := by
  rcases decodeProtocol_cases p with ⟨-, h⟩ | ⟨-, h⟩ | ⟨-, h⟩ | ⟨h1, h6, h17, h⟩ <;> rw [h]
  · rfl
  · rfl
  · rfl
  · simpa [Instr.wf, and_assoc] using ⟨h1, h6, h17⟩

/-- Settles O18: the step of each position, and the decoder on the bytes of the selector there. -/
theorem stepRunsTheSelectedOperation : Obligations.StepRunsTheSelectedOperation := by
  unfold Obligations.StepRunsTheSelectedOperation
  intro s
  refine ⟨step_idle s, step_submitted s, step_layer2 s, fun e hp hsel => ?_, fun p hp hsel => ?_, fun hp => ?_⟩
  · exact ⟨_, decodeEthertype_wf e, decodeBytes_layer3 e, step_layer3 s e hp hsel⟩
  · exact ⟨_, decodeProtocol_wf p, decodeBytes_layer4 p, step_layer4 s p hp hsel⟩
  · rw [step_finish s hp, ← Status.setDone_eq]
    rfl

end Sys2Proof.Machine

/-! Proofs for spec/20_memory.md: what a read of the frame gives and when it is defined, who writes the frame, and which
bytes an operation reads. -/

namespace Sys2Proof.Machine

/-! ## Reads of the frame (R51, R52, R54) -/

/-- The big-endian number of `k` bytes, as a sum over the bytes in frame order. -/
theorem State.bigEndian_eq_sum (s : State) (a k : Nat) :
    s.bigEndian a k = ∑ i ∈ Finset.range k, (s.frameByte (a + i)).toNat * 256 ^ (k - 1 - i) := by
  induction k with
  | zero => rfl
  | succ k ih =>
    have hshift : ∀ i ∈ Finset.range k, (s.frameByte (a + i)).toNat * 256 ^ (k - 1 - i) * 256 =
        (s.frameByte (a + i)).toNat * 256 ^ (k + 1 - 1 - i) := by
      intro i hi
      have hexp : k + 1 - 1 - i = k - 1 - i + 1 := by
        have := Finset.mem_range.1 hi
        omega
      rw [hexp, pow_succ, mul_assoc]
    rw [State.bigEndian, ih, Finset.sum_mul, Finset.sum_congr rfl hshift, Finset.sum_range_succ]
    simp

/-- A big-endian number is its high part, moved up by the width of its low part, and its low part. -/
theorem State.bigEndian_add (s : State) (a j k : Nat) :
    s.bigEndian a (j + k) = s.bigEndian a j * 256 ^ k + s.bigEndian (a + j) k := by
  induction k with
  | zero => simp [State.bigEndian]
  | succ k ih =>
    rw [← Nat.add_assoc, State.bigEndian, State.bigEndian, ih, Nat.add_assoc a j k]
    ring

/-- A read that reaches over the end of the frame is not defined (R51). -/
theorem State.memRead_eq_none (s : State) (a k : Nat) (h : s.flen < a + k) : s.memRead a k = none :=
  if_neg (Nat.not_le.2 h)

/-- Settles O7: a defined read is the big-endian number, and that is the sum over its bytes. -/
theorem memReadIsBigEndian : Obligations.MemReadIsBigEndian := by
  unfold Obligations.MemReadIsBigEndian
  intro s a k
  refine ⟨fun h => ?_, s.memRead_eq_none a k⟩
  rw [s.memRead_eq a k h, s.bigEndian_eq_sum]

/-- Settles O8: both parts lie inside the frame where the whole does, at any alignment. -/
theorem wideReadIsItsParts : Obligations.WideReadIsItsParts := by
  unfold Obligations.WideReadIsItsParts
  intro s a j k h
  refine ⟨_, _, s.memRead_eq a j (by omega), s.memRead_eq (a + j) k (by omega), ?_⟩
  rw [s.memRead_eq a (j + k) h, s.bigEndian_add]

/-! ## What the operations do with the frame (R53, R55, R56, R156) -/

section
variable {s t : State} {i : Instr}

/-- No operation writes the frame, the composite included. -/
theorem sameFrame_of_exec (hx : exec i s = .next t) : s.SameFrame t := by
  by_cases hi : i = .decode
  · subst hi
    exact sameFrame_of_execDecode hx
  · exact (LayerEnds.of_exec hi hx).sameFrame

/-- States with the same frame hold the same bytes from every offset. -/
theorem State.SameFrame.frameBytes (h : s.SameFrame t) (a k : Nat) : t.frameBytes a k = s.frameBytes a k := by
  induction k generalizing a with
  | zero => rfl
  | succ k ih => rw [State.frameBytes, h.frameByte, ih, State.frameBytes]

/-- Where there is a payload view, the payload is the bytes of the frame that it names (R58, R88). -/
theorem State.payload_eq {off len : Nat} (hoff : s.regs.payOff = some off) (hlen : s.regs.payLen = some len) :
    s.payload = some (s.frameBytes off len) := by
  simp only [State.payload, hoff, hlen]

end

/-- Settles O9: what an operation answers holds the frame it was given. -/
theorem operationsNeverWriteTheFrame : Obligations.OperationsNeverWriteTheFrame := by
  unfold Obligations.OperationsNeverWriteTheFrame
  intro i s t hx
  have hf := sameFrame_of_exec hx
  exact ⟨hf.frame, hf.flen, hf.frameByte⟩

/-- Settles O10: a submit loads consecutive bytes from offset 0, and at most FLEN of them. -/
theorem submittedFrameIsCanonical : Obligations.SubmittedFrameIsCanonical := by
  unfold Obligations.SubmittedFrameIsCanonical
  intro flenBits s t bytes flen hx
  obtain ⟨-, -, rfl⟩ := submit_next hx
  refine ⟨Memory.wf_ofBytes _, fun c hc => ?_, rfl⟩
  have hin : c.1 < (bytes.take flen).length := by simpa using (Memory.mem_ofBytes _ 0 c hc).2
  exact hin.trans_le (List.length_take_le flen bytes)

/-- Settles O20: a layer operation completes or ends by its exception, and DECODE ends in one of its ways. -/
theorem everyOperationCompletes : Obligations.EveryOperationCompletes := by
  unfold Obligations.EveryOperationCompletes
  intro i s
  by_cases hi : i = .decode
  · subst hi
    obtain ⟨t, hx, -⟩ := execDecode_ends s
    exact ⟨t, hx⟩
  · exact layer_next i s hi

/-- Settles O39: a layer operation ends the same way on a frame that agrees on its footprint, and a DECODE reads below 88
only. -/
theorem operationsReadOnlyTheirFootprint : Obligations.OperationsReadOnlyTheirFootprint := by
  unfold Obligations.OperationsReadOnlyTheirFootprint
  intro i s m e t ha hx
  by_cases hi : i = .decode
  · subst hi
    exact execDecode_onFrame (fun a h88 => ha a (List.mem_range.2 h88)) hx
  · exact ((LayerEnds.of_exec hi hx).onFrame ha).exec_eq hi

/-- Settles O44: a frame of 14 bytes or more is not dropped, and STATUS then describes a view that ends with the frame. -/
theorem payloadViewIsASuffixOfTheFrame : Obligations.PayloadViewIsASuffixOfTheFrame := by
  unfold Obligations.PayloadViewIsASuffixOfTheFrame
  intro s hl
  obtain ⟨t, hx, -⟩ := execDecode_ends s
  have hf := sameFrame_of_execDecode hx
  have d := describes_of_execDecode hx
  have hdrop : t.status.drop = false := by
    rw [← Bool.not_eq_true, d.drop_iff, hf.flen]
    exact Nat.not_lt.2 hl
  obtain ⟨off, len, hoff, hlen, h14, hend⟩ := d.view hdrop
  rw [hf.flen] at hend
  refine ⟨t, off, len, hx, hoff, hlen, h14, by omega, hend, ?_⟩
  rw [State.payload_eq hoff hlen, hf.frameBytes]

end Sys2Proof.Machine

/-! Proofs for spec/30_encoding.md: the selectors and their two dispatch tables, the wire forms of the six headers, and
the text forms the host renders. -/

namespace Sys2Proof.Machine

/-! ## Words made of smaller words (R52, R77) -/

/-- A word is two words side by side exactly when they are its high and its low bits. -/
theorem eq_append_iff {v w : Nat} {x : BitVec (v + w)} {hi : BitVec v} {lo : BitVec w} :
    x = hi ++ lo ↔ x.extractLsb' w v = hi ∧ x.extractLsb' 0 w = lo := by
  constructor
  · rintro rfl
    exact ⟨BitVec.extractLsb'_append_eq_left, BitVec.extractLsb'_append_eq_right⟩
  · rintro ⟨rfl, rfl⟩
    exact BitVec.extractLsb'_append_extractLsb'.symm

/-- Words side by side determine both. -/
theorem append_eq_append_iff {v w : Nat} {hi hi' : BitVec v} {lo lo' : BitVec w} :
    hi ++ lo = hi' ++ lo' ↔ hi = hi' ∧ lo = lo' := by
  rw [eq_append_iff, BitVec.extractLsb'_append_eq_left, BitVec.extractLsb'_append_eq_right]

/-- A word of three parts determines each of them. -/
theorem extract_of_eq_append {u v w : Nat} {x : BitVec (u + v + w)} {hi : BitVec u} {mid : BitVec v} {lo : BitVec w}
    (h : x = hi ++ mid ++ lo) :
    x.extractLsb' (w + v) u = hi ∧ x.extractLsb' w v = mid ∧ x.extractLsb' 0 w = lo := by
  subst h
  rw [BitVec.extractLsb'_append_eq_of_le (Nat.le_add_right w v), BitVec.extractLsb'_append_eq_of_le (Nat.le_refl w),
    Nat.add_sub_cancel_left, Nat.sub_self]
  exact ⟨BitVec.extractLsb'_append_eq_left, BitVec.extractLsb'_append_eq_right, BitVec.extractLsb'_append_eq_right⟩

/-! ## Selectors (R70, R78, R79) -/

/-- A byte pair, written as the two bytes of its big-endian value, is the pair again. -/
theorem bytesBE_two_append (hi lo : Byte) : bytesBE 2 (hi ++ lo : BitVec 16).toNat = [hi, lo] := by
  obtain ⟨hi', lo', hbytes, happ⟩ := append_bytesBE_two (hi ++ lo)
  obtain ⟨rfl, rfl⟩ := append_eq_append_iff.1 happ
  exact hbytes

/-- A well-formed L3OTHER is selected by the ethertype it carries. -/
theorem decodeEthertype_of_wf {e : BitVec 16} (h : (Instr.l3other e).wf = true) : decodeEthertype e = .l3other e := by
  rcases decodeEthertype_cases e with ⟨rfl, -⟩ | ⟨rfl, -⟩ | ⟨-, -, he⟩
  · exact absurd h (by decide)
  · exact absurd h (by decide)
  · exact he

/-- A well-formed L4OTHER is selected by the protocol number it carries. -/
theorem decodeProtocol_of_wf {p : BitVec 8} (h : (Instr.l4other p).wf = true) : decodeProtocol p = .l4other p := by
  rcases decodeProtocol_cases p with ⟨rfl, -⟩ | ⟨rfl, -⟩ | ⟨rfl, -⟩ | ⟨-, -, -, hp⟩
  · exact absurd h (by decide)
  · exact absurd h (by decide)
  · exact absurd h (by decide)
  · exact hp

/-- The operation an ethertype selects encodes to the two bytes of the ethertype. -/
theorem encode_decodeEthertype (e : BitVec 16) : encode (decodeEthertype e) = (.layer3, bytesBE 2 e.toNat) := by
  rcases decodeEthertype_cases e with ⟨rfl, h⟩ | ⟨rfl, h⟩ | ⟨-, -, h⟩ <;> rw [h]
  · decide
  · decide
  · rfl

/-- The operation a protocol number selects encodes to the protocol number. -/
theorem encode_decodeProtocol (p : BitVec 8) : encode (decodeProtocol p) = (.layer4, [p]) := by
  rcases decodeProtocol_cases p with ⟨rfl, h⟩ | ⟨rfl, h⟩ | ⟨rfl, h⟩ | ⟨-, -, -, h⟩ <;> rw [h] <;> rfl

/-- Settles O11: only the two OTHER operations carry a selector of their own, and a well-formed one names no other
operation. -/
theorem decodeOfEncodeGivesTheOperation : Obligations.DecodeOfEncodeGivesTheOperation := by
  unfold Obligations.DecodeOfEncodeGivesTheOperation
  intro i hwf
  cases i with
  | l3other e => exact (decodeBytes_layer3 e).trans (congrArg _ (decodeEthertype_of_wf hwf))
  | l4other p => exact congrArg Except.ok (decodeProtocol_of_wf hwf)
  | eth | ipv4 | ipv6 | icmp | tcp | udp | decode => rfl

/-- Settles O12: a row of bytes that decodes has its slot's length, and each slot's operations encode to their bytes. -/
theorem encodeOfDecodeGivesTheSelector : Obligations.EncodeOfDecodeGivesTheSelector := by
  unfold Obligations.EncodeOfDecodeGivesTheSelector
  intro slot bs i h
  match slot, bs, h with
  | .composite, [], rfl => exact ⟨rfl, rfl⟩
  | .layer2, [], rfl => exact ⟨rfl, rfl⟩
  | .layer3, [hi, lo], rfl =>
    exact ⟨decodeEthertype_wf _, by rw [encode_decodeEthertype, bytesBE_two_append]⟩
  | .layer4, [p], rfl => exact ⟨decodeProtocol_wf p, encode_decodeProtocol p⟩

/-- Settles O13: each row of bytes is run through the decoder. -/
theorem knownSelectorsDecode : Obligations.KnownSelectorsDecode := by
  unfold Obligations.KnownSelectorsDecode
  decide

/-- Settles O14: the ethertype falls into one of the three cases of the dispatch, and its bytes determine it. -/
theorem ethertypeDispatchTable : Obligations.EthertypeDispatchTable := by
  unfold Obligations.EthertypeDispatchTable
  intro hi lo
  have hv4 : hi ++ lo = ethertypeIpv4 ↔ hi = 0x08#8 ∧ lo = 0x00#8 :=
    append_eq_append_iff (hi' := 0x08#8) (lo' := 0x00#8)
  have hv6 : hi ++ lo = ethertypeIpv6 ↔ hi = 0x86#8 ∧ lo = 0xDD#8 :=
    append_eq_append_iff (hi' := 0x86#8) (lo' := 0xDD#8)
  rw [← hv4, ← hv6, decodeBytes]
  rcases decodeEthertype_cases (hi ++ lo) with ⟨he, h⟩ | ⟨he, h⟩ | ⟨h4, h6, h⟩ <;> rw [h]
  · simp [he, ethertypeIpv4, ethertypeIpv6]
  · simp [he, ethertypeIpv4, ethertypeIpv6]
  · simp [h4, h6]

/-- Settles O15: the protocol number falls into one of the four cases of the dispatch. -/
theorem protocolDispatchTable : Obligations.ProtocolDispatchTable := by
  unfold Obligations.ProtocolDispatchTable
  intro p
  rw [decodeBytes]
  rcases decodeProtocol_cases p with ⟨rfl, h⟩ | ⟨rfl, h⟩ | ⟨rfl, h⟩ | ⟨h1, h6, h17, h⟩
  · decide
  · decide
  · decide
  · rw [h]
    have hother : p ≠ 1#8 ∧ p ≠ 6#8 ∧ p ≠ 17#8 := ⟨h1, h6, h17⟩
    simp [hother]

/-! ## Bytes that stand in the frame -/

@[simp] theorem length_bytesBE (k v : Nat) : (bytesBE k v).length = k := by
  induction k generalizing v with
  | zero => rfl
  | succ k ih => simp [bytesBE, ih]

section
variable {s : State} {a : Nat}

@[simp] theorem State.holds_nil : s.Holds a [] :=
  fun _ h => absurd h (Nat.not_lt_zero _)

@[simp] theorem State.holds_cons {b : Byte} {bs : List Byte} :
    s.Holds a (b :: bs) ↔ s.frameByte a = b ∧ s.Holds (a + 1) bs := by
  constructor
  · intro h
    refine ⟨h 0 (by simp), fun i hi => ?_⟩
    have hb : s.frameByte (a + (i + 1)) = bs[i] := h (i + 1) (by simpa using hi)
    rwa [← Nat.add_assoc, Nat.add_right_comm] at hb
  · rintro ⟨hb, h⟩ i hi
    cases i with
    | zero => exact hb
    | succ i => simpa [Nat.add_assoc, Nat.add_comm 1] using h i (by simpa using hi)

@[simp] theorem State.holds_append {bs cs : List Byte} :
    s.Holds a (bs ++ cs) ↔ s.Holds a bs ∧ s.Holds (a + bs.length) cs := by
  induction bs generalizing a with
  | nil => simp
  | cons b bs ih => simp [ih, and_assoc, Nat.add_assoc, Nat.add_comm 1]

/-- The bytes of a number stand in the frame exactly when the frame spells the number, up to the bytes' width. -/
theorem State.holds_bytesBE {k v : Nat} : s.Holds a (bytesBE k v) ↔ s.bigEndian a k = v % 256 ^ k := by
  induction k generalizing v with
  | zero => simp [bytesBE, State.bigEndian, Nat.mod_one]
  | succ k ih =>
    have hb : (s.frameByte (a + k)).toNat < 256 := (s.frameByte (a + k)).isLt
    have hmod : v % 256 ^ (k + 1) = v % 256 + 256 * (v / 256 % 256 ^ k) := by
      rw [pow_succ', Nat.mod_mul]
    have hbyte : s.frameByte (a + k) = BitVec.ofNat 8 v ↔ (s.frameByte (a + k)).toNat = v % 256 := by
      rw [← BitVec.toNat_inj, BitVec.toNat_ofNat]
    simp only [bytesBE, State.holds_append, State.holds_cons, State.holds_nil, and_true, ih, length_bytesBE,
      State.bigEndian, hmod, hbyte]
    omega

/-- A word is wide enough for its bytes. -/
theorem State.wordAt_toNat (s : State) (w a : Nat) : (s.wordAt w a).toNat = s.bigEndian a (w / 8) := by
  rw [State.wordAt, BitVec.toNat_ofNat]
  refine Nat.mod_eq_of_lt ((s.bigEndian_lt a (w / 8)).trans_le ?_)
  calc 256 ^ (w / 8) = 2 ^ (8 * (w / 8)) := (pow_mul 2 8 _).symm
    _ ≤ 2 ^ w := Nat.pow_le_pow_right (by decide) (Nat.mul_div_le w 8)

/-- The bytes of a word stand in the frame exactly when the word read there is that word (R52). -/
@[simp] theorem State.holds_bytesBE_toNat {k w : Nat} {v : BitVec w} (hw : w = 8 * k) :
    s.Holds a (bytesBE k v.toNat) ↔ s.wordAt w a = v := by
  subst hw
  have hv : v.toNat < 256 ^ k := by
    rw [show 256 = 2 ^ 8 from rfl, ← pow_mul]
    exact v.isLt
  rw [State.holds_bytesBE, Nat.mod_eq_of_lt hv, ← BitVec.toNat_inj, State.wordAt_toNat,
    Nat.mul_div_cancel_left k (by decide)]

/-! ## The headers, read back (R71 to R76) -/

/-- A length that is a multiple of 4 is kept by the words it is written in (R77). -/
theorem wordsToBytes_bytesToWords {v : BitVec 6} (h : v.toNat % 4 = 0) : wordsToBytes (bytesToWords v) = v := by
  apply BitVec.eq_of_toNat_eq
  have hv : v.toNat < 64 := v.isLt
  rw [wordsToBytes_toNat, bytesToWords, BitVec.extractLsb'_toNat, Nat.shiftRight_eq_div_pow]
  omega

/-! In three formats every field is a word of whole bytes. -/

theorem State.Holds.ethHeader {h : EthHeader} (hb : s.Holds a h.bytes) : s.ethHeader a = h := by
  cases h
  simpa [EthHeader.bytes, State.ethHeader, and_assoc] using hb

theorem State.Holds.icmpHeader {h : IcmpHeader} (hb : s.Holds a h.bytes) : s.icmpHeader a = h := by
  cases h
  simpa [IcmpHeader.bytes, State.icmpHeader, and_assoc] using hb

theorem State.Holds.udpHeader {h : UdpHeader} (hb : s.Holds a h.bytes) : s.udpHeader a = h := by
  cases h
  simpa [UdpHeader.bytes, State.udpHeader, and_assoc] using hb

/-! In the other three one word holds several fields: where each word stands, then the fields. -/

theorem State.holds_ip4Header {h : Ip4Header} {u1 : BitVec 56} {u10 : BitVec 16} :
    s.Holds a (h.bytes u1 u10) ↔ s.frameByte a = h.ver ++ bytesToWords h.hlen ∧ s.wordAt 56 (a + 1) = u1 ∧
      s.frameByte (a + 8) = h.ttl ∧ s.frameByte (a + 9) = h.proto ∧ s.wordAt 16 (a + 10) = u10 ∧
      s.wordAt 32 (a + 12) = h.src ∧ s.wordAt 32 (a + 16) = h.dst := by
  simp [Ip4Header.bytes, Nat.add_assoc]

theorem State.holds_ip6Header {h : Ip6Header} :
    s.Holds a h.bytes ↔ s.wordAt 32 a = h.ver ++ h.tc ++ h.flow ∧ s.wordAt 16 (a + 4) = h.plen ∧
      s.frameByte (a + 6) = h.proto ∧ s.frameByte (a + 7) = h.hlim ∧ s.wordAt 128 (a + 8) = h.src ∧
      s.wordAt 128 (a + 24) = h.dst := by
  simp [Ip6Header.bytes, Nat.add_assoc]

theorem State.holds_tcpHeader {h : TcpHeader} {u : BitVec 6} :
    s.Holds a (h.bytes u) ↔ s.wordAt 16 a = h.sport ∧ s.wordAt 16 (a + 2) = h.dport ∧ s.wordAt 32 (a + 4) = h.seq ∧
      s.wordAt 32 (a + 8) = h.ack ∧ s.wordAt 16 (a + 12) = bytesToWords h.hlen ++ u ++ h.flags := by
  simp [TcpHeader.bytes, Nat.add_assoc]

theorem State.Holds.ip4Header {h : Ip4Header} {u1 : BitVec 56} {u10 : BitVec 16} (hmul : h.hlen.toNat % 4 = 0)
    (hb : s.Holds a (h.bytes u1 u10)) : s.ip4Header a = h := by
  obtain ⟨hbyte, -, httl, hproto, -, hsrc, hdst⟩ := State.holds_ip4Header.1 hb
  obtain ⟨hver, hwords⟩ := (eq_append_iff (hi := h.ver) (lo := bytesToWords h.hlen)).1 hbyte
  have hlen : ip4HeaderLength (s.frameByte a) = h.hlen := by
    rw [ip4HeaderLength, hwords, wordsToBytes_bytesToWords hmul]
  simp only [State.ip4Header, hver, hlen, httl, hproto, hsrc, hdst]

theorem State.Holds.ip6Header {h : Ip6Header} (hb : s.Holds a h.bytes) : s.ip6Header a = h := by
  obtain ⟨hword, hplen, hproto, hhlim, hsrc, hdst⟩ := State.holds_ip6Header.1 hb
  obtain ⟨hver, htc, hflow⟩ := extract_of_eq_append (hi := h.ver) (mid := h.tc) (lo := h.flow) hword
  simp only [State.ip6Header, hver, htc, hflow, hplen, hproto, hhlim, hsrc, hdst]

theorem State.Holds.tcpHeader {h : TcpHeader} {u : BitVec 6} (hmul : h.hlen.toNat % 4 = 0)
    (hb : s.Holds a (h.bytes u)) : s.tcpHeader a = h := by
  obtain ⟨hsport, hdport, hseq, hack, hword⟩ := State.holds_tcpHeader.1 hb
  obtain ⟨hwords, -, hflags⟩ := extract_of_eq_append (hi := bytesToWords h.hlen) (mid := u) (lo := h.flags) hword
  simp only [State.tcpHeader, hsport, hdport, hseq, hack, hwords, hflags, wordsToBytes_bytesToWords hmul]

end

/-- Settles O16: the bytes of each format determine every field of the header that stands there. -/
theorem ethernetAndIpHeadersReadBack : Obligations.EthernetAndIpHeadersReadBack := by
  unfold Obligations.EthernetAndIpHeadersReadBack
  refine ⟨fun s a h hl hb => ?_, fun s a h u1 u10 hmul hl hb => ?_, fun s a h hl hb => ?_⟩
  · exact (s.readEth_eq a hl).trans (congrArg some hb.ethHeader)
  · exact (s.readIp4_eq a hl).trans (congrArg some (hb.ip4Header hmul))
  · exact (s.readIp6_eq a hl).trans (congrArg some hb.ip6Header)

/-- Settles O17: likewise for the transport formats. -/
theorem transportHeadersReadBack : Obligations.TransportHeadersReadBack := by
  unfold Obligations.TransportHeadersReadBack
  refine ⟨fun s a h hl hb => ?_, fun s a h u hmul hl hb => ?_, fun s a h hl hb => ?_⟩
  · exact (s.readIcmp_eq a hl).trans (congrArg some hb.icmpHeader)
  · exact (s.readTcp_eq a hl).trans (congrArg some (hb.tcpHeader hmul))
  · exact (s.readUdp_eq a hl).trans (congrArg some hb.udpHeader)

/-! ## The first word of IPV6, in byte terms (R73) -/

/-- A word followed by a byte is the longer word. -/
theorem State.wordAt_add_eight (s : State) (w a : Nat) :
    s.wordAt (w + 8) a = s.wordAt w a ++ s.frameByte (a + w / 8) := by
  apply BitVec.eq_of_toNat_eq
  have hb : (s.frameByte (a + w / 8)).toNat < 2 ^ 8 := (s.frameByte (a + w / 8)).isLt
  rw [BitVec.toNat_append, ← Nat.shiftLeft_add_eq_or_of_lt hb, Nat.shiftLeft_eq, State.wordAt_toNat,
    State.wordAt_toNat, Nat.add_div_right w (by decide), State.bigEndian]

theorem State.wordAt_32 (s : State) (a : Nat) :
    s.wordAt 32 a = s.frameByte a ++ s.frameByte (a + 1) ++ s.frameByte (a + 2) ++ s.frameByte (a + 3) := by
  rw [s.wordAt_add_eight 24, s.wordAt_add_eight 16, s.wordAt_16]

/-- The bits across the border of two words are the low end of the high one and the high end of the low one. -/
theorem extractLsb'_across {v w j k start : Nat} {hi : BitVec v} {lo : BitVec w} (h : start + k = w) :
    (hi ++ lo).extractLsb' start (j + k) = hi.extractLsb' 0 j ++ lo.extractLsb' start k := by
  rw [← BitVec.extractLsb'_append_extractLsb'_eq_extractLsb' (start₂ := w) h.symm,
    BitVec.extractLsb'_append_eq_of_le (Nat.le_refl w), Nat.sub_self,
    BitVec.extractLsb'_append_eq_of_add_le (Nat.le_of_eq h)]

/-- The low end of two words ends with the whole low one. -/
theorem extractLsb'_low {v w : Nat} (hi : BitVec v) (lo : BitVec w) (j : Nat) :
    (hi ++ lo).extractLsb' 0 (j + w) = hi.extractLsb' 0 j ++ lo := by
  rw [extractLsb'_across (Nat.zero_add w), BitVec.extractLsb'_eq_self]

/-! The three parts of the word, as `readIp6` cuts them out, in the bytes they come from. -/

theorem State.ip6Version_bytes (s : State) (a : Nat) :
    (s.wordAt 32 a).extractLsb' 28 4 = (s.frameByte a).extractLsb' 4 4 := by
  rw [s.wordAt_32, BitVec.extractLsb'_append_eq_of_le (by decide), BitVec.extractLsb'_append_eq_of_le (by decide),
    BitVec.extractLsb'_append_eq_of_le (by decide)]

theorem State.ip6TrafficClass_bytes (s : State) (a : Nat) :
    (s.wordAt 32 a).extractLsb' 20 8 = (s.frameByte a).extractLsb' 0 4 ++ (s.frameByte (a + 1)).extractLsb' 4 4 := by
  rw [s.wordAt_32, BitVec.extractLsb'_append_eq_of_le (by decide), BitVec.extractLsb'_append_eq_of_le (by decide)]
  exact extractLsb'_across (j := 4) (k := 4) rfl

theorem State.ip6FlowLabel_bytes (s : State) (a : Nat) :
    (s.wordAt 32 a).extractLsb' 0 20 =
      (s.frameByte (a + 1)).extractLsb' 0 4 ++ s.frameByte (a + 2) ++ s.frameByte (a + 3) :=
  calc (s.wordAt 32 a).extractLsb' 0 20
    _ = (s.frameByte a ++ s.frameByte (a + 1) ++ s.frameByte (a + 2)).extractLsb' 0 12 ++ s.frameByte (a + 3) := by
      rw [s.wordAt_32]
      exact extractLsb'_low _ _ 12
    _ = (s.frameByte a ++ s.frameByte (a + 1)).extractLsb' 0 4 ++ s.frameByte (a + 2) ++ s.frameByte (a + 3) :=
      congrArg (· ++ _) (extractLsb'_low _ _ 4)
    _ = _ := by rw [BitVec.extractLsb'_append_eq_of_add_le (by decide)]

/-- Settles O36: IPV6 completes, and each field is cut out of the four bytes of the word. -/
theorem ip6FirstWordSplitsAcrossBytes : Obligations.Ip6FirstWordSplitsAcrossBytes := by
  unfold Obligations.Ip6FirstWordSplitsAcrossBytes
  rintro s _ rfl hn
  exact ⟨s.pastIpv6, LayerEnds.exec_eq nofun (.ipv6 hn), congrArg some (s.ip6Version_bytes s.pc),
    congrArg some (s.ip6TrafficClass_bytes s.pc), congrArg some (s.ip6FlowLabel_bytes s.pc)⟩

/-! ## Text forms (R84, R85, R87) -/

/-- The characters of a MAC address as text (R84). -/
def macAlphabet : Text :=
  ['0', '1', '2', '3', '4', '5', '6', '7', '8', '9', 'A', 'B', 'C', 'D', 'E', 'F', ':']

theorem hexDigit_mem_macAlphabet (v : BitVec 4) : hexDigit v ∈ macAlphabet := by
  revert v
  decide

theorem macText_subset_macAlphabet (m : Mac) : macText m ⊆ macAlphabet := by
  have hbyte (b : Byte) : hexByte b ⊆ macAlphabet := by simp [hexByte, hexDigit_mem_macAlphabet]
  have hcolon : [':'] ⊆ macAlphabet := by decide
  simp only [macText, List.append_subset, hbyte, hcolon, and_true]

theorem hexDigit_injective : Function.Injective hexDigit := by
  unfold Function.Injective
  decide

theorem hexByte_injective : Function.Injective hexByte := by
  intro b c h
  obtain ⟨hhi, hlo⟩ : hexDigit (b.extractLsb' 4 4) = hexDigit (c.extractLsb' 4 4) ∧
      hexDigit (b.extractLsb' 0 4) = hexDigit (c.extractLsb' 0 4) := by
    simpa [hexByte] using h
  exact (eq_append_iff.2 ⟨hexDigit_injective hhi, hexDigit_injective hlo⟩).trans
    BitVec.extractLsb'_append_extractLsb'

/-- A byte has two digits, so that where one text of a byte ends is known. -/
theorem hexByte_append_inj {b c : Byte} {t u : Text} : hexByte b ++ t = hexByte c ++ u ↔ b = c ∧ t = u := by
  constructor
  · intro h
    obtain ⟨hb, ht⟩ := List.append_inj h rfl
    exact ⟨hexByte_injective hb, ht⟩
  · rintro ⟨rfl, rfl⟩
    rfl

theorem macText_injective : Function.Injective macText := by
  intro m1 m2 h
  simp only [macText, List.append_assoc, hexByte_append_inj, List.append_cancel_left_eq,
    hexByte_injective.eq_iff] at h
  simp only [← BitVec.toNat_inj, BitVec.extractLsb'_toNat, Nat.shiftRight_eq_div_pow] at h ⊢
  omega

/-- Settles O50: every character is a hexadecimal digit or a colon, and the digits give the bytes back. -/
theorem macTextIsFaithful : Obligations.MacTextIsFaithful := by
  unfold Obligations.MacTextIsFaithful
  exact ⟨fun m => ⟨rfl, fun c hc => macText_subset_macAlphabet m hc⟩, fun _ _ h => macText_injective h⟩

theorem decDigit_eq_digitChar (n : Nat) : decDigit n = Nat.digitChar (n % 10) := by
  have h : ∀ d < 10, Char.ofNat (48 + d) = Nat.digitChar d := by decide
  exact h (n % 10) (Nat.mod_lt n (by decide))

/-! The decimal digits of a number end with its decimal digit. -/

theorem toDigits_ten_of_lt {n : Nat} (h : n < 10) : Nat.toDigits 10 n = [decDigit n] := by
  rw [Nat.toDigits_of_lt_base h, decDigit_eq_digitChar, Nat.mod_eq_of_lt h]

theorem toDigits_ten_of_le {n : Nat} (h : 10 ≤ n) : Nat.toDigits 10 n = Nat.toDigits 10 (n / 10) ++ [decDigit n] := by
  rw [Nat.toDigits_of_base_le (by decide) h, decDigit_eq_digitChar]

/-- A byte's text is its decimal digits, by the number of digits it has (R85, R87). -/
theorem decByte_eq_toDigits (b : Byte) : decByte b = Nat.toDigits 10 b.toNat := by
  have hb : b.toNat < 256 := b.isLt
  unfold decByte
  split
  · rw [toDigits_ten_of_lt (by assumption)]
  · split
    · rw [toDigits_ten_of_le (by omega), toDigits_ten_of_lt (by omega)]
      rfl
    · rw [toDigits_ten_of_le (by omega), toDigits_ten_of_le (by omega), toDigits_ten_of_lt (by omega),
        Nat.div_div_eq_div_mul]
      rfl

/-- Settles O51: each byte's text is its decimal digits, and the top byte is below 256 as it stands. -/
theorem ipv4TextIsDottedQuad : Obligations.Ipv4TextIsDottedQuad := by
  unfold Obligations.Ipv4TextIsDottedQuad
  intro a
  have ha : a.toNat / 2 ^ 24 < 256 := by
    have := a.isLt
    omega
  simp only [ipv4Text, decByte_eq_toDigits, BitVec.extractLsb'_toNat, Nat.shiftRight_eq_div_pow, pow_zero, Nat.div_one]
  rw [Nat.mod_eq_of_lt ha]

/-- Settles O52: the six names are fixed, and PROTO_NUM is the text of its byte. -/
theorem labelStringsFollowTheTable : Obligations.LabelStringsFollowTheTable := by
  unfold Obligations.LabelStringsFollowTheTable
  intro p
  exact ⟨rfl, rfl, rfl, rfl, rfl, rfl, congrArg some (decByte_eq_toDigits p)⟩

end Sys2Proof.Machine

/-! Proofs for spec/40_ethernet.md: the Ethernet header, and the frame too short to hold one. -/

namespace Sys2Proof.Machine

/-- Settles O25: a whole header is read where the statement reads it, and a shorter frame ends by the first entry. -/
theorem ethDecodesOrDrops : Obligations.EthDecodesOrDrops := by
  unfold Obligations.EthDecodesOrDrops
  intro s
  constructor
  · intro hn
    exact ⟨.layer3, LayerEnds.exec_eq nofun (.eth hn)⟩
  · intro hn
    rw [← Status.drop_eq]
    exact LayerEnds.exec_eq nofun (.dropped hn)

end Sys2Proof.Machine

/-! Proofs for spec/41_ip.md: the two IP headers, what is neither of them, and the truncation at layer 3. -/

namespace Sys2Proof.Machine

/-- IP4_HLEN is the low nibble of the first byte, times four (R72, R77). -/
theorem State.ip4Header_hlen_eq_ofNat (s : State) (a : Nat) :
    (s.ip4Header a).hlen = BitVec.ofNat 6 (4 * ((s.frameByte a).extractLsb' 0 4).toNat) := by
  rw [← s.ip4Header_hlen_toNat, BitVec.ofNat_toNat, BitVec.setWidth_eq]

/-- Settles O26: the declared length is the one the header is read with; no byte at all is a case of fewer than 20. -/
theorem ipv4DecodesTheHeader : Obligations.Ipv4DecodesTheHeader := by
  unfold Obligations.Ipv4DecodesTheHeader
  rintro s _ _ _ _ rfl rfl rfl rfl
  constructor
  · intro hn hl
    have hlen := s.ip4Header_hlen_toNat s.pc
    refine ⟨.layer4, ?_⟩
    rw [← Status.setL3_v4_eq, ← s.ip4Header_hlen_eq_ofNat, ← hlen]
    exact LayerEnds.exec_eq nofun (.ipv4 hn (hlen.trans_le hl))
  · intro h
    rw [← s.ip4Header_hlen_toNat] at h
    refine LayerEnds.exec_eq nofun (.truncatedIpv4 ?_)
    unfold State.remaining
    omega

/-- Settles O27: a whole header is read where the statement reads it, and a shorter one ends by the entry. -/
theorem ipv6DecodesTheHeader : Obligations.Ipv6DecodesTheHeader := by
  unfold Obligations.Ipv6DecodesTheHeader
  rintro s _ _ _ rfl rfl rfl
  constructor
  · intro hn
    refine ⟨.layer4, ?_⟩
    rw [← Status.setL3_v6_eq]
    exact LayerEnds.exec_eq nofun (.ipv6 hn)
  · intro hn
    exact LayerEnds.exec_eq nofun (.truncatedIpv6 hn)

/-- Settles O30: L3OTHER ends one way only, and its two STATUS fields are the mask and the code. -/
theorem l3OtherKeepsThePayload : Obligations.L3OtherKeepsThePayload := by
  unfold Obligations.L3OtherKeepsThePayload
  intro s e
  refine ⟨.finish, ?_⟩
  rw [← Status.l3other_eq]
  exact LayerEnds.exec_eq nofun (.l3other e)

end Sys2Proof.Machine

/-! Proofs for spec/42_transport.md: the three transport headers, what is none of them, and the truncation at layer 4. -/

namespace Sys2Proof.Machine

/-! ## STATUS after each completed operation, as a mask (R33, R34) -/

/-- What ICMP does to STATUS (R131). -/
theorem Status.icmp_eq (st : Status) : (st.setL4 .icmp).setLabel .icmp = (st &&& ~~~0x1C70#16) ||| 0x0410#16 :=
  st.l4_eq .icmp .icmp

/-- What TCP does to STATUS where its data offset lies inside the frame (R132, R133). -/
theorem Status.tcp_eq (st : Status) : (st.setL4 .tcp).setLabel .tcp = (st &&& ~~~0x1C70#16) ||| 0x0820#16 :=
  st.l4_eq .tcp .tcp

/-- What UDP does to STATUS (R135). -/
theorem Status.udp_eq (st : Status) : (st.setL4 .udp).setLabel .udp = (st &&& ~~~0x1C70#16) ||| 0x0C30#16 :=
  st.l4_eq .udp .udp

/-- What L4OTHER does to STATUS (R136). -/
theorem Status.l4other_eq (st : Status) :
    (st.setL4 .other).setLabel .protoNum = (st &&& ~~~0x1C70#16) ||| 0x1040#16 :=
  st.l4_eq .other .protoNum

/-! ## The operations -/

/-- Settles O31: a whole header is read where the statement reads it, and a shorter one ends by the entry. -/
theorem icmpDecodesTheHeader : Obligations.IcmpDecodesTheHeader := by
  unfold Obligations.IcmpDecodesTheHeader
  rintro s _ _ rfl rfl
  constructor
  · intro hn
    refine ⟨.finish, ?_⟩
    rw [← Status.icmp_eq]
    exact LayerEnds.exec_eq nofun (.icmp hn)
  · intro hn
    exact LayerEnds.exec_eq nofun (.truncatedIcmp hn)

/-- TCP_HLEN is the upper nibble of the word at bytes 12-13, times four (R75, R77). -/
theorem State.tcpHeader_hlen_toNat_of_word (s : State) (a : Nat) :
    (s.tcpHeader a).hlen.toNat = 4 * ((s.wordAt 16 (a + 12)).extractLsb' 12 4).toNat :=
  wordsToBytes_toNat _

/-- Settles O32: a whole header is read where the statement reads it, and an offset beyond the bytes available is the
overrun. -/
theorem tcpDecodesTheHeader : Obligations.TcpDecodesTheHeader := by
  unfold Obligations.TcpDecodesTheHeader
  rintro s _ _ _ _ rfl rfl rfl rfl
  constructor
  · intro hn
    refine ⟨.finish, ?_⟩
    rw [← s.tcpHeader_hlen_toNat_of_word, BitVec.ofNat_toNat, BitVec.setWidth_eq]
    by_cases ho : s.flen - s.pc < (s.tcpHeader s.pc).hlen.toNat
    · simp only [if_pos ho]
      rw [← Status.overrun_eq]
      exact LayerEnds.exec_eq nofun (.tcpOverrun hn ho)
    · simp only [if_neg ho]
      rw [← Status.tcp_eq]
      exact LayerEnds.exec_eq nofun (.tcp hn (Nat.not_lt.1 ho))
  · intro hn
    exact LayerEnds.exec_eq nofun (.truncatedTcp hn)

/-- Settles O33: the flags TCP writes are the low six bits of the word at bytes 12-13, so of byte 13. -/
theorem tcpFlagsAreTheLowBitsOfByte13 : Obligations.TcpFlagsAreTheLowBitsOfByte13 := by
  unfold Obligations.TcpFlagsAreTheLowBitsOfByte13
  intro s hn
  obtain ⟨p, hx⟩ := (tcpDecodesTheHeader s _ _ _ _ rfl rfl rfl rfl).1 hn
  refine ⟨_, _, hx, congrArg some (s.tcpHeader_flags s.pc), fun k hk => ?_⟩
  rw [BitVec.getLsbD_extractLsb', decide_eq_true hk, Bool.true_and, Nat.zero_add]

/-- Settles O34: a whole header is read where the statement reads it, and a shorter one ends by the entry. -/
theorem udpDecodesTheHeader : Obligations.UdpDecodesTheHeader := by
  unfold Obligations.UdpDecodesTheHeader
  rintro s _ _ rfl rfl
  constructor
  · intro hn
    refine ⟨.finish, ?_⟩
    rw [← Status.udp_eq]
    exact LayerEnds.exec_eq nofun (.udp hn)
  · intro hn
    exact LayerEnds.exec_eq nofun (.truncatedUdp hn)

/-- Settles O35: L4OTHER ends one way only, and its two STATUS fields are the mask and the codes. -/
theorem l4OtherKeepsThePayload : Obligations.L4OtherKeepsThePayload := by
  unfold Obligations.L4OtherKeepsThePayload
  intro s p
  refine ⟨.finish, ?_⟩
  rw [← Status.l4other_eq]
  exact LayerEnds.exec_eq nofun (.l4other p)

end Sys2Proof.Machine

/-! Proofs for spec/43_pipeline.md: no step and no DECODE stops, the cursor stays in the frame, what a DECODE that ends
early leaves, and the record the host makes of a frame. -/

namespace Sys2Proof.Machine

/-! ## Totality and the cursor (R22, R156, R159) -/

/-- Settles O24: each position names what comes next, its selector register holds a value, and no operation stops. -/
theorem invariantStatesNeverStop : Obligations.InvariantStatesNeverStop := by
  unfold Obligations.InvariantStatesNeverStop
  intro s hs
  have hpos := hs.position
  cases hp : s.phase with
  | idle => exact ⟨s, step_idle s hp⟩
  | submitted =>
    rw [step_submitted s hp]
    exact everyOperationCompletes .decode s
  | layer2 =>
    rw [step_layer2 s hp]
    exact everyOperationCompletes .eth s
  | layer3 =>
    simp only [State.AtPhase, hp] at hpos
    obtain ⟨-, -, -, x, hregs⟩ := hpos
    have hsel : s.regs.ethType = some x.etherType := by rw [hregs]; rfl
    rw [step_layer3 s _ hp hsel]
    exact everyOperationCompletes _ s
  | layer4 =>
    obtain ⟨v6, hl⟩ := hpos.layer4 hp
    obtain ⟨p, hsel⟩ := hl.selector
    rw [step_layer4 s p hp hsel]
    exact everyOperationCompletes _ s
  | finish => exact ⟨_, step_finish s hp⟩

/-- Settles O37: the header length is four times a nibble, so 6 bits hold it, and the length checks bound the cursor. -/
theorem cursorArithmeticIsExact : Obligations.CursorArithmeticIsExact := by
  unfold Obligations.CursorArithmeticIsExact
  rintro s _ _ rfl rfl
  constructor
  · intro hn hl
    have hlen := s.ip4Header_hlen_toNat s.pc
    exact ⟨s.pastIpv4, LayerEnds.exec_eq nofun (.ipv4 hn (hlen.trans_le hl)), congrArg (s.pc + ·) hlen,
      (congrArg (s.pc + ·) hlen).trans_le (by omega), congrArg some hlen⟩
  · intro hn
    have hle : s.pc + 40 ≤ s.flen := by omega
    exact ⟨s.pastIpv6, LayerEnds.exec_eq nofun (.ipv6 hn), rfl, hle⟩

/-- Settles O42: every end of a DECODE sets `DONE`, and STATUS then describes the registers. -/
theorem decodeEndsInOneOfFifteenStatuses : Obligations.DecodeEndsInOneOfFifteenStatuses := by
  unfold Obligations.DecodeEndsInOneOfFifteenStatuses
  intro s
  obtain ⟨t, hx, h⟩ := execDecode_ends s
  obtain ⟨hidle, hdone⟩ := h.ended
  exact ⟨t, hx, hdone, (describes_of_execDecode hx).status_mem, by rw [State.busy, hidle]; rfl⟩

/-! ## A DECODE that ends early (R151, R152) -/

/-- Which of the fifteen STATUS values end at a truncation or after L3OTHER, and which name a transport kind. -/
theorem doneStatuses_early : ∀ st ∈ doneStatuses,
    (st.isTrunc .l3 = true → st = 0x0081#16) ∧ (st.isTrunc .l4 = true → st = 0x1505#16 ∨ st = 0x1909#16) ∧
      (st.isL3 .other = true → st = 0x000D#16) ∧
      (st.isL4 .none = false → st.isL3 .v4 = true ∨ st.isL3 .v6 = true) := by
  intro st h
  simp only [doneStatuses, List.mem_cons, List.not_mem_nil, or_false] at h
  rcases h with rfl | rfl | rfl | rfl | rfl | rfl | rfl | rfl | rfl | rfl | rfl | rfl | rfl | rfl | rfl <;> decide

/-- The registers of a DECODE that ends at layer 3: FRAME_LEN, the payload view and the Ethernet group. -/
def ethernetRegs : List Reg := [.frameLen, .payOff, .payLen, .ethDst, .ethSrc, .ethType]

section
variable {s t : State}

/-- The registers that hold a value are those in the list that STATUS stands for (R35). -/
theorem State.Describes.holds_iff_mem {st : Status} {l : List Reg} (d : t.Describes st)
    (hl : ∀ r, st.lists r = true ↔ r ∈ l) (r : Reg) : t.regs.read r ≠ none ↔ r ∈ l := by
  rw [← hl, ← d.holds_iff, Option.isSome_iff_ne_none]

theorem lists_truncatedL3 (r : Reg) : Status.lists 0x0081#16 r = true ↔ r ∈ ethernetRegs := by
  cases r <;> decide

theorem lists_l3other (r : Reg) : Status.lists 0x000D#16 r = true ↔ r ∈ ethernetRegs := by
  cases r <;> decide

theorem lists_truncatedOverIpv4 (r : Reg) : Status.lists 0x1505#16 r = true ↔
    r ∈ ethernetRegs ++ [.ipVer, .ipProto, .ip4Hlen, .ip4Ttl, .ip4Src, .ip4Dst] := by
  cases r <;> decide

theorem lists_truncatedOverIpv6 (r : Reg) : Status.lists 0x1909#16 r = true ↔
    r ∈ ethernetRegs ++ [.ipVer, .ipProto, .ip6Tc, .ip6Flow, .ip6Plen, .ip6Hlim, .ip6Src, .ip6Dst] := by
  cases r <;> decide

/-- STATUS and the payload view at the ends of a DECODE: a drop, an end at layer 3, or a row of layer 4's tables, which
start at the cursor. -/
theorem DecodeEnds.status_view (h : DecodeEnds s t) :
    t.status = 0x0003#16 ∨
    ((t.status = 0x0081#16 ∨ t.status = 0x000D#16) ∧ t.regs.payOff = some 14 ∧
      t.regs.payLen = some (s.flen - 14)) ∨
    ∃ v6 p, t.status = s.l4Status v6 t.pc p ∧ t.regs.payOff = some (s.l4ViewStart t.pc p) ∧
      t.regs.payLen = some (s.flen - s.l4ViewStart t.pc p) := by
  cases h with
  | dropped => exact .inl (State.enterFrameTooShort_status s.beginDecode_status)
  | truncatedL3 =>
    exact .inr (.inl ⟨.inl (State.enterTruncatedL3_status s.atLayer3_status), rfl,
      congrArg (fun n => some (n - 14)) s.atLayer3_sameFrame.flen⟩)
  | l3other =>
    refine .inr (.inl ⟨.inr ?_, rfl, congrArg some s.atLayer3_remaining⟩)
    rw [State.finishDecode_status, State.pastL3other_status s.atLayer3_status]
    rfl
  | @layer4 v6 l4 p s2 u hs h =>
    obtain ⟨hst, hoff, hlen, -⟩ := hs.ends h
    have hpc : u.finishDecode.pc = l4 := h.l4_keeps.2.trans hs.pc
    rw [hpc]
    exact .inr (.inr ⟨v6, p, hst, hoff, hlen⟩)

/-- A frame that is kept without an IP group leaves the whole Ethernet payload. -/
theorem DecodeEnds.ethernetPayload (h : DecodeEnds s t) (hst : t.status = 0x0081#16 ∨ t.status = 0x000D#16) :
    t.regs.payOff = some 14 ∧ t.regs.payLen = some (s.flen - 14) := by
  rcases h.status_view with hdrop | ⟨-, hview⟩ | ⟨v6, p, hl4, -⟩
  · rw [hdrop] at hst
    exact absurd hst (by decide)
  · exact hview
  · obtain ⟨-, -, hv4, hv6, -⟩ := State.l4Status_ip v6 s t.pc p
    have hno : t.status.isL3 .v4 = false ∧ t.status.isL3 .v6 = false := by
      rcases hst with hst | hst <;> rw [hst] <;> decide
    rw [hl4, hv4, hv6] at hno
    simp at hno

/-- The payload view of a layer-4 truncation starts where layer 4 does (R152). -/
theorem State.l4ViewStart_of_truncated (s : State) (v6 : Bool) (l4 : Nat) (p : BitVec 8) :
    (s.l4Status v6 l4 p).isTrunc .l4 = true → s.l4ViewStart l4 p = l4 := by
  rcases decodeProtocol_cases p with ⟨rfl, -⟩ | ⟨rfl, -⟩ | ⟨rfl, -⟩ | ⟨h1, h6, h17, -⟩
  · by_cases hn : 4 ≤ s.flen - l4
    · rw [(s.l4_icmp v6 hn).1]
      cases v6 <;> exact nofun
    · exact fun _ => (s.l4_truncated v6 (.inl ⟨rfl, Nat.lt_of_not_le hn⟩)).2
  · by_cases hn : 14 ≤ s.flen - l4
    · by_cases ho : s.frameDataOffset l4 ≤ s.flen - l4
      · rw [(s.l4_tcp v6 hn ho).1]
        cases v6 <;> exact nofun
      · rw [(s.l4_tcpOverrun v6 hn (Nat.lt_of_not_le ho)).1]
        cases v6 <;> exact nofun
    · exact fun _ => (s.l4_truncated v6 (.inr (.inl ⟨rfl, Nat.lt_of_not_le hn⟩))).2
  · by_cases hn : 8 ≤ s.flen - l4
    · rw [(s.l4_udp v6 hn).1]
      cases v6 <;> exact nofun
    · exact fun _ => (s.l4_truncated v6 (.inr (.inr ⟨rfl, Nat.lt_of_not_le hn⟩))).2
  · exact fun _ => (s.l4_other v6 h1 h6 h17).2

/-- A DECODE truncated at layer 4 leaves the bytes from its cursor. -/
theorem DecodeEnds.ipPayload (h : DecodeEnds s t) (ht : t.status.isTrunc .l4 = true) :
    t.regs.payOff = some t.pc ∧ t.regs.payLen = some (s.flen - t.pc) := by
  rcases h.status_view with hdrop | ⟨hst, -⟩ | ⟨v6, p, hst, hview⟩
  · rw [hdrop] at ht
    exact absurd ht (by decide)
  · rcases hst with hst | hst <;> rw [hst] at ht <;> exact absurd ht (by decide)
  · rw [hst] at ht
    rwa [s.l4ViewStart_of_truncated v6 t.pc p ht] at hview

end

/-- Settles O45: a truncation leaves one of three STATUS values, and each lists its registers. -/
theorem truncationKeepsCompletedLayersOnly : Obligations.TruncationKeepsCompletedLayersOnly := by
  unfold Obligations.TruncationKeepsCompletedLayersOnly
  rintro s t _ rfl hx
  obtain ⟨u, hu, h⟩ := execDecode_ends s
  cases hx.symm.trans hu
  have d := describes_of_execDecode hx
  obtain ⟨htrunc3, htrunc4, -, -⟩ := doneStatuses_early _ d.status_mem
  constructor
  · intro ht
    have hst := htrunc3 ht
    obtain ⟨hoff, hlen⟩ := h.ethernetPayload (.inl hst)
    rw [hst] at d ⊢
    exact ⟨rfl, hoff, hlen, d.holds_iff_mem lists_truncatedL3⟩
  · intro ht
    obtain ⟨hoff, hlen⟩ := h.ipPayload ht
    refine ⟨hoff, hlen, ?_⟩
    rcases htrunc4 ht with hst | hst <;> rw [hst] at d ⊢
    · exact .inl ⟨rfl, rfl, d.holds_iff_mem lists_truncatedOverIpv4⟩
    · exact .inr ⟨rfl, rfl, d.holds_iff_mem lists_truncatedOverIpv6⟩

/-- Settles O46: only a STATUS that names an IP names a transport, and OTHER stands in one STATUS value. -/
theorem shortCircuitAfterL3Other : Obligations.ShortCircuitAfterL3Other := by
  unfold Obligations.ShortCircuitAfterL3Other
  intro s t hx
  obtain ⟨u, hu, h⟩ := execDecode_ends s
  cases hx.symm.trans hu
  have d := describes_of_execDecode hx
  obtain ⟨-, -, hother, htransport⟩ := doneStatuses_early _ d.status_mem
  refine ⟨htransport, fun hk => ?_⟩
  have hst := hother hk
  obtain ⟨hoff, hlen⟩ := h.ethernetPayload (.inr hst)
  rw [hst] at d ⊢
  exact ⟨rfl, rfl, hoff, hlen, d.holds_iff_mem lists_l3other⟩

/-! ## The record the host makes of a result (R155, R158) -/

section
variable {s t : State}

/-- A dropped frame makes no record. -/
theorem State.decoded_of_drop (hd : t.status.drop = true) : t.decoded = none := by
  simp [State.decoded, hd]

/-- DECODE of a frame shorter than 14 bytes ends by the first entry (R155). -/
theorem execDecode_short (hn : s.flen < 14) : execDecode s = .next s.beginDecode.enterFrameTooShort := by
  obtain ⟨t, hx, h⟩ := execDecode_ends s
  cases h with
  | dropped => exact hx
  | truncatedL3 hl | l3other hl => exact absurd hn (Nat.not_lt.2 hl)
  | layer4 hs => exact absurd hn (Nat.not_lt.2 hs.flen)

end

/-- Settles O48: what the lines before ETH and the first entry write is the state the statement names. -/
theorem shortFrameIsDropped : Obligations.ShortFrameIsDropped := by
  unfold Obligations.ShortFrameIsDropped
  rintro s _ hn rfl
  have hst : s.beginDecode.status.setDrop.setDone = 0x0003#16 := State.enterFrameTooShort_status s.beginDecode_status
  have hdrop : Status.drop 0x0003#16 = true := by decide
  refine ⟨(execDecode_short hn).trans ?_, State.decoded_of_drop hdrop⟩
  rw [State.enterFrameTooShort_eq, hst]
  rfl

section
variable {t : State}

/-- The members of a record are the registers of the result it is made of (R158). -/
theorem State.decoded_members {d : Decoded} (h : t.decoded = some d) :
    t.regs.ethSrc.map macText = some d.srcMac ∧ t.regs.ethDst.map macText = some d.dstMac ∧
      t.regs.frameLen = some d.length ∧ t.regs.ethType = some d.ethertype ∧ t.payload = some d.payload := by
  unfold State.decoded at h
  split at h
  · simp only [Option.bind_eq_bind, Option.bind_eq_some_iff, Option.pure_def, Option.some.injEq] at h
    obtain ⟨src, hsrc, dst, hdst, label, -, len, hlen, e, he, ip, -, tr, -, pay, hpay, rfl⟩ := h
    exact ⟨hsrc, hdst, hlen, he, hpay⟩
  · cases h

/-! Each group of registers makes a header once all its registers hold a value. -/

theorem isSome_bind {α β : Type} {o : Option α} {f : α → Option β} (ho : o.isSome = true)
    (hf : ∀ a, (f a).isSome = true) : (o >>= f).isSome = true := by
  obtain ⟨a, rfl⟩ := Option.isSome_iff_exists.1 ho
  exact hf a

theorem Regs.ip4_isSome {r : Regs} (h : ∀ x ∈ Instr.ipv4.writes, (r.read x).isSome = true) : r.ip4.isSome = true := by
  simp only [Instr.writes, List.forall_mem_cons, Regs.read, Option.isSome_map] at h
  obtain ⟨hver, hproto, hhlen, httl, hsrc, hdst, -⟩ := h
  exact isSome_bind hver fun _ => isSome_bind hhlen fun _ => isSome_bind httl fun _ => isSome_bind hproto fun _ =>
    isSome_bind hsrc fun _ => isSome_bind hdst fun _ => rfl

theorem Regs.ip6_isSome {r : Regs} (h : ∀ x ∈ Instr.ipv6.writes, (r.read x).isSome = true) : r.ip6.isSome = true := by
  simp only [Instr.writes, List.forall_mem_cons, Regs.read, Option.isSome_map] at h
  obtain ⟨hver, hproto, htc, hflow, hplen, hhlim, hsrc, hdst, -⟩ := h
  exact isSome_bind hver fun _ => isSome_bind htc fun _ => isSome_bind hflow fun _ => isSome_bind hplen fun _ =>
    isSome_bind hproto fun _ => isSome_bind hhlim fun _ => isSome_bind hsrc fun _ => isSome_bind hdst fun _ => rfl

theorem Regs.icmp_isSome {r : Regs} (h : ∀ x ∈ Instr.icmp.writes, (r.read x).isSome = true) :
    r.icmp.isSome = true := by
  simp only [Instr.writes, List.forall_mem_cons, Regs.read, Option.isSome_map] at h
  obtain ⟨htype, hcode, hcsum, -⟩ := h
  exact isSome_bind htype fun _ => isSome_bind hcode fun _ => isSome_bind hcsum fun _ => rfl

theorem Regs.tcp_isSome {r : Regs} (h : ∀ x ∈ Instr.tcp.writes, (r.read x).isSome = true) : r.tcp.isSome = true := by
  simp only [Instr.writes, List.forall_mem_cons, Regs.read, Option.isSome_map] at h
  obtain ⟨hsport, hdport, hseq, hack, hhlen, hflags, -⟩ := h
  exact isSome_bind hsport fun _ => isSome_bind hdport fun _ => isSome_bind hseq fun _ => isSome_bind hack fun _ =>
    isSome_bind hhlen fun _ => isSome_bind hflags fun _ => rfl

theorem Regs.udp_isSome {r : Regs} (h : ∀ x ∈ Instr.udp.writes, (r.read x).isSome = true) : r.udp.isSome = true := by
  simp only [Instr.writes, List.forall_mem_cons, Regs.read, Option.isSome_map] at h
  obtain ⟨hsport, hdport, hlen, hcsum, -⟩ := h
  exact isSome_bind hsport fun _ => isSome_bind hdport fun _ => isSome_bind hlen fun _ => isSome_bind hcsum fun _ => rfl

/-- Each of the fifteen STATUS values has a label, and one that needs the protocol number lists IP_PROTO. -/
theorem doneStatuses_label : ∀ st ∈ doneStatuses,
    (Label.ofCode st.labelCode).isSome = true ∧
      (Label.ofCode st.labelCode = some .protoNum → st.lists .ipProto = true) := by
  intro st h
  simp only [doneStatuses, List.mem_cons, List.not_mem_nil, or_false] at h
  rcases h with rfl | rfl | rfl | rfl | rfl | rfl | rfl | rfl | rfl | rfl | rfl | rfl | rfl | rfl | rfl <;> decide

theorem Label.text_isSome {l : Label} {p : Option (BitVec 8)} (h : l = .protoNum → p.isSome = true) :
    (l.text p).isSome = true := by
  cases l with
  | protoNum =>
    rw [Label.text, Option.isSome_map]
    exact h rfl
  | _ => rfl

section
variable (d : t.Describes t.status)
include d

theorem State.Describes.done : t.status.done = true := by
  have hlen := d.holds_iff .frameLen
  rwa [Regs.read, d.frameLen_eq, eq_comm] at hlen

/-- Registers that STATUS lists hold a value. -/
theorem State.Describes.isSome_of_lists {l : List Reg} (hl : ∀ x ∈ l, t.status.lists x = true) :
    ∀ x ∈ l, (t.regs.read x).isSome = true :=
  fun x hx => (d.holds_iff x).trans (hl x hx)

theorem State.Describes.labelText_isSome : t.labelText.isSome = true := by
  obtain ⟨hcode, hproto⟩ := doneStatuses_label _ d.status_mem
  obtain ⟨l, hl⟩ := Option.isSome_iff_exists.1 hcode
  have hreg := d.holds_iff .ipProto
  rw [Regs.read, Option.isSome_map] at hreg
  simp only [State.labelText, hl]
  refine Label.text_isSome fun hn => hreg.trans (hproto ?_)
  rw [hl, hn]

theorem State.Describes.ipPart_isSome (hk : t.status.drop = false) : t.ipPart.isSome = true := by
  unfold State.ipPart
  split_ifs with h4 h6
  · rw [Option.isSome_map]
    exact Regs.ip4_isSome (d.isSome_of_lists (by simp [Instr.writes, Status.lists, d.done, hk, h4]))
  · rw [Option.isSome_map]
    exact Regs.ip6_isSome (d.isSome_of_lists (by simp [Instr.writes, Status.lists, d.done, hk, h6]))
  · rfl
  · rfl

theorem State.Describes.transportPart_isSome (hk : t.status.drop = false) : t.transportPart.isSome = true := by
  unfold State.transportPart
  split_ifs with hi ht hu
  · rw [Option.isSome_map]
    exact Regs.icmp_isSome (d.isSome_of_lists (by simp [Instr.writes, Status.lists, d.done, hk, hi]))
  · rw [Option.isSome_map]
    exact Regs.tcp_isSome (d.isSome_of_lists (by simp [Instr.writes, Status.lists, d.done, hk, ht]))
  · rw [Option.isSome_map]
    exact Regs.udp_isSome (d.isSome_of_lists (by simp [Instr.writes, Status.lists, d.done, hk, hu]))
  · rfl
  · rfl

/-- Every frame that is not dropped makes a record. -/
theorem State.Describes.decoded_isSome (hk : t.status.drop = false) : t.decoded.isSome = true := by
  have heth := d.isSome_of_lists (l := Instr.eth.writes) (by simp [Instr.writes, Status.lists, d.done, hk])
  simp only [Instr.writes, List.forall_mem_cons, Regs.read, Option.isSome_map] at heth
  obtain ⟨hdst, hsrc, htype, -⟩ := heth
  have hlen : t.regs.frameLen.isSome = true := by rw [d.frameLen_eq]; rfl
  obtain ⟨off, len, hoff, hplen, -⟩ := d.view hk
  have hpay : t.payload.isSome = true := by rw [State.payload_eq hoff hplen]; rfl
  rw [State.decoded, if_pos (by simp [d.done, hk])]
  exact isSome_bind (Option.isSome_map.trans hsrc) fun _ => isSome_bind (Option.isSome_map.trans hdst) fun _ =>
    isSome_bind d.labelText_isSome fun _ => isSome_bind hlen fun _ => isSome_bind htype fun _ =>
    isSome_bind (d.ipPart_isSome hk) fun _ => isSome_bind (d.transportPart_isSome hk) fun _ =>
    isSome_bind hpay fun _ => rfl

end

end

/-! ## One frame through the capture loop (R189, R190) -/

section
variable {flenBits : Nat} {h : Session} {f : RawFrame}

/-- A loop that waits for a decode is not at the top, so there the block is not busy. -/
theorem Session.Inv.not_busy_of_top (hi : h.Inv) (hl : h.loop = .top) : h.block.busy = false := by
  rw [← Bool.not_eq_true, ← hi.waiting, hl]
  exact nofun

/-- At the top a running loop submits the frame the link gives it. -/
theorem Session.loopMove_top (hi : h.Inv) (hr : h.running = true) (hl : h.loop = .top)
    (hf : f.bytes.length < 2 ^ flenBits) :
    ∃ s, s.flen = f.bytes.length ∧ s.Holds 0 f.bytes ∧ step s = exec .decode s ∧
      h.loopMove flenBits (some f) = { h with block := s, loop := .decoding f } := by
  obtain ⟨s, hs, -, hflen, -, hbytes, -, -, hstep⟩ :=
    submitHandsOverTheFrame flenBits h.block f.bytes (hi.not_busy_of_top hl) hf
  refine ⟨s, hflen, hbytes, hstep, ?_⟩
  simp only [Session.loopMove, hl, hr, if_true, hs]

/-- When the decode is done, its record, if any, is appended and the loop is at the top again. -/
theorem Session.loopMove_decoding {t : State} (hl : h.loop = .decoding f) (hx : step h.block = .next t)
    (hd : t.status.done = true) (input : Option RawFrame) :
    h.loopMove flenBits input = { ({ h with block := t } : Session).append f with loop := .top } := by
  simp only [Session.loopMove, hl, hx, hd, if_true]

/-- Appending a result that makes a record puts one at the end of the buffer. -/
theorem Session.append_buffer_of_decoded {d : Decoded} (hd : h.block.decoded = some d) :
    (h.append f).buffer = h.buffer ++
      [{ number := h.buffer.length + 1, relative := h.relativeTo f.time, captured := f.time, content := d }] := by
  rcases h.append_buffer f with ⟨hn, -⟩ | ⟨d', hd', hb⟩
  · cases hd.symm.trans hn
  · cases hd.symm.trans hd'
    exact hb

/-- Appending a result that makes no record leaves the buffer. -/
theorem Session.append_buffer_of_none (hd : h.block.decoded = none) : (h.append f).buffer = h.buffer := by
  rcases h.append_buffer f with ⟨-, hb⟩ | ⟨d, hd', -⟩
  · exact hb
  · cases hd.symm.trans hd'

end

/-- Settles O57: the loop submits the frame, its DECODE is dropped, and a drop makes no record. -/
theorem droppedFrameMakesNoRecord : Obligations.DroppedFrameMakesNoRecord := by
  unfold Obligations.DroppedFrameMakesNoRecord
  intro flenBits h f input hi hr hl hn hf
  obtain ⟨s, hflen, -, hstep, hmove⟩ := Session.loopMove_top hi hr hl hf
  have hx : step s = .next s.beginDecode.enterFrameTooShort := hstep.trans (execDecode_short (hflen.trans_lt hn))
  have hst := State.enterFrameTooShort_status s.beginDecode_status
  have hdone : s.beginDecode.enterFrameTooShort.status.done = true := by rw [hst]; decide
  have hdrop : s.beginDecode.enterFrameTooShort.status.drop = true := by rw [hst]; decide
  rw [hmove, Session.loopMove_decoding rfl hx hdone]
  exact ⟨Session.append_buffer_of_none (State.decoded_of_drop hdrop), rfl⟩

/-! ## The record's bytes are the frame's (R35, R84, R88) -/

section
variable {s : State} {a : Nat} {bs : List Byte}

/-- The bytes read from where they stand. -/
theorem State.Holds.frameBytes (hb : s.Holds a bs) : s.frameBytes a bs.length = bs := by
  induction bs generalizing a with
  | nil => rfl
  | cons b bs ih =>
    obtain ⟨hfirst, hrest⟩ := State.holds_cons.1 hb
    rw [List.length_cons, State.frameBytes, hfirst, ih hrest]

/-- What stands in the frame from its start stands there from each offset. -/
theorem State.Holds.drop (hb : s.Holds 0 bs) (k : Nat) : s.Holds k (bs.drop k) := by
  intro i hi
  have hk : k + i < bs.length := by
    rw [List.length_drop] at hi
    omega
  rw [List.getElem_drop, ← hb (k + i) hk, Nat.zero_add]

/-- A word of the frame whose bytes are given is the word they spell (R52). -/
theorem State.Holds.wordAt {w k : Nat} {v : BitVec w} (hb : s.Holds 0 bs) (hw : w = 8 * k)
    (hv : bytesBE k v.toNat = (bs.drop a).take k) : s.wordAt w a = v := by
  rw [← State.holds_bytesBE_toNat hw, hv]
  have hsplit := hb.drop a
  rw [← List.take_append_drop k (bs.drop a), State.holds_append] at hsplit
  exact hsplit.1

end

/-- Settles O58: the loop submits the frame, its DECODE is described by a STATUS that is no drop, and the record's members
are the registers, which hold the fields of the frame. -/
theorem everyOtherFrameMakesOneRecord : Obligations.EveryOtherFrameMakesOneRecord := by
  unfold Obligations.EveryOtherFrameMakesOneRecord
  intro flenBits h f input hi hr hl hn hf
  obtain ⟨s, hflen, hbytes, hstep, hmove⟩ := Session.loopMove_top hi hr hl hf
  rw [← hflen] at hn
  obtain ⟨t, off, len, hx, hoff, hlen, h14, hle, hend, hpay⟩ := payloadViewIsASuffixOfTheFrame s hn
  obtain ⟨t', hx', heth, -⟩ := decodeLeavesTheFieldsOfTheFrame s
  cases hx.symm.trans hx'
  obtain ⟨hdst, hsrc, htype⟩ := heth hn
  have hsame := sameFrame_of_execDecode hx
  have d := describes_of_execDecode hx
  have hk : t.status.drop = false := by
    rw [← Bool.not_eq_true, d.drop_iff, hsame.flen]
    exact Nat.not_lt.2 hn
  obtain ⟨c, hc⟩ := Option.isSome_iff_exists.1 (d.decoded_isSome hk)
  obtain ⟨hcsrc, hcdst, hclen, hctype, hcpay⟩ := State.decoded_members hc
  rw [hdst, Option.map_some, Option.some.injEq] at hcdst
  rw [hsrc, Option.map_some, Option.some.injEq] at hcsrc
  rw [hmove, Session.loopMove_decoding rfl (hstep.trans hx) d.done]
  refine ⟨_, off, Session.append_buffer_of_decoded hc, rfl, rfl, rfl, fun hb => Session.relativeTo_of_empty hb _,
    fun r0 hb => Session.relativeTo_of_first hb _, ?_, h14, hflen ▸ hle, ?_, fun m hm => ?_, fun m hm => ?_,
    fun e he => ?_⟩
  · exact (Option.some.inj (hclen.symm.trans d.frameLen_eq)).trans (hsame.flen.trans hflen)
  · have hplen : len = (f.bytes.drop off).length := by
      rw [List.length_drop]
      omega
    rw [hplen, (hbytes.drop off).frameBytes] at hpay
    exact Option.some.inj (hcpay.symm.trans hpay)
  · rw [← hcdst, hbytes.wordAt (a := 0) rfl hm]
  · rw [← hcsrc, hbytes.wordAt rfl hm]
  · exact (Option.some.inj (hctype.symm.trans htype)).trans (hbytes.wordAt rfl he)

end Sys2Proof.Machine

/-! Proofs for spec/60_exceptions.md: what raises the three exceptions and what their entries write, the events of a
session and its invariant, and the buffer. -/

namespace Sys2Proof.Machine

/-! ## The exceptions (R171, R177) -/

/-- Settles O28: each entry is one record update, and its STATUS writes are a mask. -/
theorem exceptionEntriesWriteTheOutcome : Obligations.ExceptionEntriesWriteTheOutcome := by
  unfold Obligations.ExceptionEntriesWriteTheOutcome
  intro s
  refine ⟨?_, ?_, ?_⟩
  · rw [State.enterFrameTooShort_eq, Status.drop_eq]
  · rw [State.enterTruncatedL3_eq, Status.truncL3_eq]
    rfl
  · rw [State.enterTruncatedL4_eq, Status.truncL4_eq _ _ (by split <;> simp)]
    by_cases hk : s.status.isL3 .v4 = true
    · rw [if_pos hk, if_pos rfl, if_pos ((Status.isL3_v4_iff _).1 hk)]
      rfl
    · rw [if_neg hk, if_neg nofun, if_neg (hk ∘ (Status.isL3_v4_iff _).2)]
      rfl

section
variable {s t : State} {i : Instr}

/-- An operation that ends the DECODE in `t` under `c`, and otherwise leaves it going, answers `t` exactly under `c`. -/
theorem LayerEnds.exec_eq_iff {c : Prop} (hi : i ≠ .decode) (ht : t.phase = .idle) (hc : c → LayerEnds s i t)
    (hnc : ¬c → ∃ u, LayerEnds s i u ∧ u.phase ≠ .idle) : exec i s = .next t ↔ c := by
  refine ⟨fun hx => ?_, fun h => (hc h).exec_eq hi⟩
  by_contra h
  obtain ⟨u, hu, hphase⟩ := hnc h
  rw [← (LayerEnds.of_exec hi hx).unique hu] at hphase
  exact hphase ht

/-- STATUS values that agree outside a mask agree on a field that the mask leaves out. -/
theorem Status.get_eq_of_outside {st st' m : Status} {lo w : Nat} (h : st &&& ~~~m = st' &&& ~~~m)
    (hm : m.get lo w = 0#w) (hlo : lo + w < 16) : st.get lo w = st'.get lo w := by
  have hget : ∀ x : Status, (x &&& ~~~m).get lo w = x.get lo w := by
    intro x
    simp only [Status.get] at hm ⊢
    rw [BitVec.extractLsb'_and, BitVec.extractLsb'_not_of_lt hlo, hm, BitVec.not_zero, BitVec.and_allOnes]
  rw [← hget st, h, hget]

end

/-- Settles O29: each operation but ETH is truncated or goes on, and the STATUS masks of the three that never raise it
leave TRUNC out. -/
theorem truncationCausesAreComplete : Obligations.TruncationCausesAreComplete := by
  unfold Obligations.TruncationCausesAreComplete
  rintro s _ rfl
  refine ⟨?_, ?_, ?_, ?_, ?_, fun i t hi hx => ?_⟩
  · rw [← s.ip4Header_hlen_toNat]
    refine LayerEnds.exec_eq_iff nofun rfl (fun h => .truncatedIpv4 ?_)
      fun h => ⟨s.pastIpv4, .ipv4 ?_ ?_, nofun⟩ <;> unfold State.remaining <;> omega
  · exact LayerEnds.exec_eq_iff nofun rfl .truncatedIpv6 fun h => ⟨s.pastIpv6, .ipv6 (Nat.le_of_not_lt h), nofun⟩
  · exact LayerEnds.exec_eq_iff nofun rfl .truncatedIcmp fun h => ⟨s.pastIcmp, .icmp (Nat.le_of_not_lt h), nofun⟩
  · refine LayerEnds.exec_eq_iff nofun rfl .truncatedTcp fun h => ?_
    by_cases ho : (s.tcpHeader s.pc).hlen.toNat ≤ s.remaining
    · exact ⟨s.pastTcp, .tcp (Nat.le_of_not_lt h) ho, nofun⟩
    · exact ⟨s.pastTcpOverrun, .tcpOverrun (Nat.le_of_not_lt h) (Nat.lt_of_not_le ho), nofun⟩
  · exact LayerEnds.exec_eq_iff nofun rfl .truncatedUdp fun h => ⟨s.pastUdp, .udp (Nat.le_of_not_lt h), nofun⟩
  · obtain ⟨hdecode, hmask⟩ : i ≠ .decode ∧ i.statusMask.truncCode = 0#2 := by
      rcases hi with rfl | ⟨e, rfl⟩ | ⟨p, rfl⟩ <;> exact ⟨nofun, by simp only [Instr.statusMask]; rfl⟩
    exact Status.get_eq_of_outside (LayerEnds.of_exec hdecode hx).status_outside hmask (by decide)

/-! ## start and stop (R187, R188, R212) -/

section
variable {h : Session}

theorem Session.start_of_running (hr : h.running = true) : h.start = (h, .alreadyRunning) :=
  if_pos hr

/-- Starting a stopped session leaves one loop active: the one there was, or a new one at the top. -/
theorem Session.start_of_stopped (hr : h.running = false) :
    ∃ l, l ≠ .exited ∧ (∀ f, l = .decoding f ↔ h.loop = .decoding f) ∧
      h.start = ({ h with running := true, loop := l }, .started) := by
  cases hl : h.loop with
  | exited => exact ⟨.top, nofun, fun _ => iff_of_false nofun nofun, by simp [Session.start, hr, hl]⟩
  | top => exact ⟨.top, nofun, fun _ => iff_of_false nofun nofun, by simp [Session.start, hr, hl]⟩
  | decoding f => exact ⟨.decoding f, nofun, fun _ => .rfl, by simp [Session.start, hr, hl]⟩

theorem Session.stop_of_running (hr : h.running = true) : h.stop = ({ h with running := false }, .stopped) :=
  if_pos hr

theorem Session.stop_of_stopped (hr : h.running = false) : h.stop = (h, .notRunning) :=
  if_neg (by simp [hr])

theorem Session.start_buffer (h : Session) : h.start.1.buffer = h.buffer := by
  cases hr : h.running with
  | true => rw [Session.start_of_running hr]
  | false =>
    obtain ⟨l, -, -, hs⟩ := Session.start_of_stopped hr
    rw [hs]

theorem Session.stop_buffer (h : Session) : h.stop.1.buffer = h.buffer := by
  cases hr : h.running with
  | true => rw [Session.stop_of_running hr]
  | false => rw [Session.stop_of_stopped hr]

end

/-- Settles O54: each flag value has its response, and only a start that changes the flag touches the loop. -/
theorem startAndStopAreIdempotent : Obligations.StartAndStopAreIdempotent := by
  unfold Obligations.StartAndStopAreIdempotent
  intro h
  refine ⟨Session.start_of_running, Session.stop_of_stopped, fun hr => ?_, fun hr => ?_, h.start_buffer,
    h.stop_buffer⟩
  · obtain ⟨l, hl, -, hs⟩ := Session.start_of_stopped hr
    rw [hs]
    exact ⟨rfl, rfl, hl⟩
  · rw [Session.stop_of_running hr]
    exact ⟨rfl, rfl⟩

/-- Settles O53: the session after R212 has no loop and no record, and its block is the block after reset. -/
theorem sessionBeginsStoppedAndEmpty : Obligations.SessionBeginsStoppedAndEmpty := by
  unfold Obligations.SessionBeginsStoppedAndEmpty
  have hidle : Session.initial.block.busy ≠ true := by decide
  exact ⟨rfl, Session.initial, rfl, rfl, rfl, rfl, rfl,
    { numbered := nofun, block := resetMeetsTheInvariant, waiting := iff_of_false nofun hidle }⟩

/-! ## One move of the capture loop (R189, R194) -/

/-- The session that one move of the capture loop leaves from `h`, in a block of width `flenBits`. -/
inductive Session.MoveEnds (flenBits : Nat) (h : Session) : Session → Prop where
  /-- No loop, no frame for it, or a frame the block cannot be given. -/
  | stays : MoveEnds flenBits h h
  | exits (hr : h.running = false) (hl : h.loop = .top) : MoveEnds flenBits h { h with loop := .exited }
  | submits {f : RawFrame} {b : State} (hr : h.running = true) (hl : h.loop = .top)
      (hs : h.block.submit flenBits f.bytes f.bytes.length = .next b) :
      MoveEnds flenBits h { h with block := b, loop := .decoding f }
  | waits {f : RawFrame} {b : State} (hl : h.loop = .decoding f) (hx : step h.block = .next b)
      (hd : b.status.done = false) : MoveEnds flenBits h { h with block := b }
  | completes {f : RawFrame} {b : State} (hl : h.loop = .decoding f) (hx : step h.block = .next b)
      (hd : b.status.done = true) :
      MoveEnds flenBits h { ({ h with block := b } : Session).append f with loop := .top }

section
variable {flenBits : Nat} {h h' : Session} {f : RawFrame} {b : State}

theorem Session.loopMove_of_stopped (hr : h.running = false) (hl : h.loop = .top) (input : Option RawFrame) :
    h.loopMove flenBits input = { h with loop := .exited } := by
  simp [Session.loopMove, hr, hl]

/-- Every move of the loop ends in one of these. -/
theorem Session.loopMove_ends (flenBits : Nat) (h : Session) (input : Option RawFrame) :
    h.MoveEnds flenBits (h.loopMove flenBits input) := by
  unfold Session.loopMove
  split
  · exact .stays
  · next hl =>
    split
    · next hr =>
      split
      · exact .stays
      · split
        · next hs => exact .submits hr hl hs
        · exact .stays
        · exact .stays
    · next hr => exact .exits (eq_false_of_ne_true hr) hl
  · next hl =>
    split
    · next hx =>
      split
      · next hd => exact .completes hl hx hd
      · next hd => exact .waits hl hx (eq_false_of_ne_true hd)
    · exact .stays
    · exact .stays

/-! ## The invariant of a session (R190, R191) -/

/-- A record with the next number and its relative timestamp keeps the buffer numbered. -/
theorem Numbered.append {r : PacketRecord} (hn : Numbered h.buffer) (hnum : r.number = h.buffer.length + 1)
    (hrel : r.relative = h.relativeTo r.captured) : Numbered (h.buffer ++ [r]) := by
  intro i r' hi
  rcases Nat.lt_trichotomy i h.buffer.length with hlt | rfl | hgt
  · rw [List.getElem?_append_left hlt] at hi
    rw [List.getElem?_append_left (i.zero_le.trans_lt hlt)]
    exact hn i r' hi
  · obtain rfl : r = r' := by simpa using hi
    refine ⟨hnum, fun h0 => ?_, fun h0 r0 hr0 => ?_⟩
    · rw [hrel, Session.relativeTo_of_empty (List.eq_nil_of_length_eq_zero h0)]
    · rw [List.getElem?_append_left h0] at hr0
      rw [hrel, Session.relativeTo_of_first hr0]
  · rw [List.getElem?_eq_none (by simpa using hgt)] at hi
    cases hi

/-- An append keeps the buffer numbered. -/
theorem Session.append_numbered (hn : Numbered h.buffer) (f : RawFrame) : Numbered (h.append f).buffer := by
  rcases h.append_buffer f with ⟨-, hb⟩ | ⟨d, -, hb⟩ <;> rw [hb]
  · exact hn
  · exact hn.append rfl rfl

/-- A busy block that a step leaves not busy has set `DONE`. -/
theorem done_of_step_idle {s t : State} (hs : s.busy = true) (hx : step s = .next t) (ht : t.phase = .idle) :
    t.status.done = true := by
  rcases step_next_cases hx with rfl | rfl | ⟨i, hi⟩
  · simp [State.busy, ht] at hs
  · exact Status.done_setDone _
  · by_cases hd : i = .decode
    · subst hd
      obtain ⟨u, hu, hends⟩ := execDecode_ends s
      cases hi.symm.trans hu
      exact hends.ended.2
    · cases LayerEnds.of_exec hd hi with
      | dropped | truncatedIpv4 | truncatedIpv6 | truncatedIcmp | truncatedTcp | truncatedUdp =>
        exact Status.done_setDone _
      | _ => cases ht

/-- After a step of a busy block `DONE` says whether it is busy no more. -/
theorem State.Inv.busy_after_step {s t : State} (hi : s.Inv) (hs : s.busy = true) (hx : step s = .next t) :
    t.busy = !t.status.done := by
  obtain ⟨-, -, ht⟩ := State.inv_iff.1 (everyStepKeepsTheInvariant s t hi hx)
  cases hd : t.status.done with
  | true => rw [State.busy, (ht.describes_of_done hd).1]; rfl
  | false =>
    have hne : t.phase ≠ .idle := fun hidle => by
      rw [done_of_step_idle hs hx hidle] at hd
      cases hd
    simpa [State.busy] using hne

/-- While the loop waits for a decode the block is busy. -/
theorem Session.Inv.busy_of_decoding (hi : h.Inv) (hl : h.loop = .decoding f) : h.block.busy = true :=
  hi.waiting.1 ⟨f, hl⟩

/-- A move of the loop keeps the invariant. -/
theorem Session.MoveEnds.inv (hi : h.Inv) (hm : h.MoveEnds flenBits h') : h'.Inv := by
  cases hm with
  | stays => exact hi
  | exits hr hl =>
    have hidle : h.block.busy ≠ true := by simp [hi.not_busy_of_top hl]
    exact { numbered := hi.numbered, block := hi.block, waiting := iff_of_false nofun hidle }
  | @submits f b hr hl hs =>
    have hbusy : b.busy = true := by
      obtain ⟨-, -, rfl⟩ := submit_next hs
      rfl
    obtain ⟨-, hsubmit, -⟩ := hostActionsKeepTheInvariant h.block hi.block
    exact { numbered := hi.numbered, block := hsubmit _ _ _ _ hs, waiting := iff_of_true ⟨f, rfl⟩ hbusy }
  | @waits f b hl hx hd =>
    have hbusy : b.busy = true := by rw [hi.block.busy_after_step (hi.busy_of_decoding hl) hx, hd]; rfl
    exact { numbered := hi.numbered
            block := everyStepKeepsTheInvariant _ _ hi.block hx
            waiting := iff_of_true ⟨f, hl⟩ hbusy }
  | @completes f b hl hx hd =>
    have hidle : b.busy ≠ true := by rw [hi.block.busy_after_step (hi.busy_of_decoding hl) hx, hd]; nofun
    refine { numbered := ?_, block := ?_, waiting := iff_of_false nofun ?_ }
    · exact Session.append_numbered (h := { h with block := b }) hi.numbered f
    · rw [Session.append_block]
      exact everyStepKeepsTheInvariant _ _ hi.block hx
    · rwa [Session.append_block]

/-- So does a start, which never replaces a loop that waits for a decode. -/
theorem Session.Inv.start (hi : h.Inv) : h.start.1.Inv := by
  cases hr : h.running with
  | true => rwa [Session.start_of_running hr]
  | false =>
    obtain ⟨l, -, hdec, hs⟩ := Session.start_of_stopped hr
    rw [hs]
    exact { numbered := hi.numbered, block := hi.block, waiting := (exists_congr hdec).trans hi.waiting }

theorem Session.Inv.stop (hi : h.Inv) : h.stop.1.Inv := by
  cases hr : h.running with
  | true =>
    rw [Session.stop_of_running hr]
    exact { numbered := hi.numbered, block := hi.block, waiting := hi.waiting }
  | false => rwa [Session.stop_of_stopped hr]

end

/-- Settles O55: start and stop leave the buffer and the block, and each end of a move keeps the invariant. -/
theorem sessionEventsKeepTheInvariant : Obligations.SessionEventsKeepTheInvariant := by
  unfold Obligations.SessionEventsKeepTheInvariant
  intro flenBits h e hi
  cases e with
  | start => exact hi.start
  | stop => exact hi.stop
  | move input => exact (h.loopMove_ends flenBits input).inv hi

/-! ## The buffer (R191, R192) -/

section
variable {flenBits : Nat} {h h' : Session}

/-- An append puts at most one record at the end of the buffer. -/
theorem Session.append_grows (h : Session) (f : RawFrame) :
    ∃ l, (h.append f).buffer = h.buffer ++ l ∧ l.length ≤ 1 := by
  rcases h.append_buffer f with ⟨-, hb⟩ | ⟨d, -, hb⟩
  · exact ⟨[], hb.trans (List.append_nil _).symm, Nat.zero_le 1⟩
  · exact ⟨_, hb, Nat.le_refl 1⟩

/-- So does a move of the loop: only the one that completes a decode appends. -/
theorem Session.MoveEnds.grows (hm : h.MoveEnds flenBits h') : ∃ l, h'.buffer = h.buffer ++ l ∧ l.length ≤ 1 := by
  cases hm with
  | completes => exact Session.append_grows _ _
  | _ => exact ⟨[], (List.append_nil _).symm, Nat.zero_le 1⟩

/-- And every event. -/
theorem Session.after_grows (flenBits : Nat) (h : Session) (e : HostEvent) :
    ∃ l, (h.after flenBits e).buffer = h.buffer ++ l ∧ l.length ≤ 1 := by
  cases e with
  | start => exact ⟨[], h.start_buffer.trans (List.append_nil _).symm, Nat.zero_le 1⟩
  | stop => exact ⟨[], h.stop_buffer.trans (List.append_nil _).symm, Nat.zero_le 1⟩
  | move input => exact (h.loopMove_ends flenBits input).grows

end

/-- Settles O56, by induction on the events: each appends at most one record. -/
theorem bufferGrowsOnlyAtItsEnd : Obligations.BufferGrowsOnlyAtItsEnd := by
  unfold Obligations.BufferGrowsOnlyAtItsEnd Session.snapshot
  intro flenBits es
  induction es with
  | nil => exact fun h => ⟨[], (List.append_nil _).symm, Nat.le_refl 0⟩
  | cons e es ih =>
    intro h
    obtain ⟨l, hl, hlen⟩ := h.after_grows flenBits e
    obtain ⟨l', hl', hlen'⟩ := ih (h.after flenBits e)
    refine ⟨l ++ l', ?_, ?_⟩
    · rw [Session.afterAll, hl', hl, List.append_assoc]
    · rw [List.length_append, List.length_cons]
      omega

/-! ## A stopped loop (R188, R189, R194) -/

/-- Settles O59: a DECODE completes in one step, and STATUS then says whether its result makes a record. -/
theorem stoppedLoopHaltsAfterItsDecode : Obligations.StoppedLoopHaltsAfterItsDecode := by
  unfold Obligations.StoppedLoopHaltsAfterItsDecode
  intro flenBits h input hr
  constructor
  · intro hl
    rw [Session.loopMove_of_stopped hr hl]
    exact ⟨rfl, rfl⟩
  · intro f hl hp
    obtain ⟨b, hx, -⟩ := execDecode_ends h.block
    have d := describes_of_execDecode hx
    rw [Session.loopMove_decoding hl ((step_submitted _ hp).trans hx) d.done]
    refine ⟨b, hx, rfl, Session.append_block _ f, fun hk => ?_, fun hk => ?_⟩
    · exact Session.append_buffer_of_none (h := { h with block := b }) (State.decoded_of_drop hk)
    · obtain ⟨c, hc⟩ := Option.isSome_iff_exists.1 (d.decoded_isSome hk)
      have hb := Session.append_buffer_of_decoded (h := { h with block := b }) (f := f) hc
      exact (congrArg List.length hb).trans List.length_append

end Sys2Proof.Machine

/-! ## Reset at any time, and the refused submits (R211, R215, R217) -/

namespace Sys2Proof.Machine

@[simp] theorem State.assertReset_busy (s : State) : s.assertReset.busy = false := rfl

/-- Settles O2: reset keeps the host's frame and length and takes the rest from the reset state, with no register set. -/
theorem assertedResetAbandonsEverything : Obligations.AssertedResetAbandonsEverything := by
  unfold Obligations.AssertedResetAbandonsEverything
  intro s
  have hregs : ∀ r : Reg, s.assertReset.regs.read r = none := by
    rw [s.assertReset_regs]
    exact Regs.read_empty
  exact ⟨s.assertReset_status, s.assertReset_pc, s.assertReset_busy, hregs, s.assertReset_frame, s.assertReset_flen⟩

section
variable {s : State} {flenBits flen : Nat}

/-- A submit while busy is refused, whatever its length (R215). -/
theorem submit_of_busy (bytes : List Byte) (hb : s.busy = true) :
    s.submit flenBits bytes flen = .refused .submitWhileBusy := by
  rw [State.submit, if_pos hb]

/-- One when not busy is refused from the first length above `FLEN_MAX` (R217). -/
theorem submit_of_two_pow_le (bytes : List Byte) (hb : s.busy = false) (hl : 2 ^ flenBits ≤ flen) :
    s.submit flenBits bytes flen = .refused .frameTooLong := by
  have hlong : Config.flenMax flenBits < flen :=
    Nat.not_le.1 fun hle => Nat.not_lt.2 hl ((le_flenMax_iff flenBits flen).1 hle)
  rw [State.submit, if_neg (Bool.eq_false_iff.1 hb), if_pos hlong]

end

/-- Settles O4: the busy test comes first, and the first length above FLEN_MAX is `2 ^ FLEN_BITS`. -/
theorem submitStopsOutsideItsDomain : Obligations.SubmitStopsOutsideItsDomain := by
  unfold Obligations.SubmitStopsOutsideItsDomain
  intro flenBits s bytes flen
  exact ⟨submit_of_busy bytes, submit_of_two_pow_le bytes⟩

end Sys2Proof.Machine
